-- ==== Sys2Proof/Word.lean ====
section
/-! DEFINITION. The bit-vector types of the block: the fields of a message word (spec/30_encoding.md R41, R42)
and the widths of the registers (spec/10_state.md R10). -/

namespace Sys2Proof

/-- A data byte as DECODE extracts it, before any range check (R43). -/
abbrev Byte := BitVec 8

/-- A channel or a status nibble (R42), and the width of `LISTEN_CH` (R20). -/
abbrev Nibble := BitVec 4

/-- A data value in 0..127: what is left of a data byte that passed the range check (R44, R61). -/
abbrev Data7 := BitVec 7

/-- A note number, 0..127 (R12, R16). -/
abbrev Note := BitVec 7

/-- One whole message as it stands on the `MSG` port (R31, R41). -/
abbrev Msg := BitVec 24

end Sys2Proof
end

