-- ==== Sys2Proof/Config.lean ====
section
/-! DEFINITION. The implementation parameters of spec/00_scope.md R6. Every one has the value the spec gives it;
the parameters the spec leaves to the platform (LISTEN_CH, PITCH_FORMAT, RESET_ON_PORT_CHANGE) have their default here
and are arguments, or a field of State, where they are used. -/

namespace Sys2Proof.Config

/-- `MSG_WIDTH`: the width of the message port in bits (R6, R8). -/
def msgWidth : Nat := 24

/-- `STACK_CAP`: the most entries the note stack can hold (R6, R17). -/
def stackCap : Nat := 128

/-- `NOTE_REF`: the reference note, and the reset value of CUR (R6, R10). -/
def noteRef : Note := 64

/-- `WHEEL_CENTER`: the neutral pitch wheel, and the reset value of PW (R6, R10). -/
def wheelCenter : Data7 := 64

/-- `SUSTAIN_CC`: the controller number of the sustain pedal (R6, R44). -/
def sustainCc : Data7 := 0x40

/-- `PEDAL_THRESHOLD`: the pedal is held when data2 is at least this (R6, R44). -/
def pedalThreshold : Nat := 64

/-- `GATE_HIGH`: the gate voltage of a sounding note (R6, R76). -/
def gateHigh : Rat := 5

/-- `GATE_LOW`: the gate voltage of silence (R6, R76). -/
def gateLow : Rat := 0

/-- The default of `LISTEN_CH` (R6, R20). -/
def defaultListenCh : Nibble := 0

/-- `BATCH_MAX`: the transport's bound on one read, a host parameter; the block accepts any number (R6, R38). -/
def batchMax : Nat := 128

/-- The default of the host parameter `RESET_ON_PORT_CHANGE` (R6, R98). -/
def defaultResetOnPortChange : Bool := false

/-- `PITCH_FORMAT`: the rendering of the pitch output (R6, R78). -/
inductive PitchFormat where
  | exact
  | binary64
  | binary32
  deriving DecidableEq, Repr

/-- The default of `PITCH_FORMAT` (R6). -/
def defaultPitchFormat : PitchFormat := .binary64

end Sys2Proof.Config
end

