-- ==== Sys2Proof/Machine/State.lean ====
section
/-! DEFINITION. The state of the block (spec/10_state.md R9, R10), the host's events, the reasons a step can stop, and the
state after reset (spec/70_reset_and_hazards.md R96). -/

namespace Sys2Proof.Machine

/-- One input transaction of the block (00_scope.md R8, glossary). -/
inductive Transaction where
  /-- a `MSG_STB` strobe with this word on `MSG` (R61) -/
  | message (w : Msg)
  /-- an `RST` strobe (R96) -/
  | reset
  deriving DecidableEq, Repr

/-- What the host does at the block's ports (20_memory.md R39), with the two things it must not do, so that the model can
refuse them by name (92 D9, D15). -/
inductive HostEvent where
  /-- one transaction, with no other overlapping it -/
  | transaction (t : Transaction)
  /-- a reading of the outputs between two transactions (R39, R74) -/
  | readSignals
  /-- two transactions at once, which have no meaning (R40) -/
  | overlapping (t₁ t₂ : Transaction)
  /-- the host drives `LISTEN_CH` with this value; the input must be held constant over a run (R20) -/
  | driveListenCh (c : Nibble)
  deriving DecidableEq, Repr

/-- The architectural state (R9, R10, R16, R20). -/
structure State where
  /-- CUR, the current note (R12) -/
  cur : Note
  /-- GATE, set while a note is sounding (R13) -/
  gate : Bool
  /-- PEDAL, set while the sustain pedal is held (R14) -/
  pedal : Bool
  /-- PW, the raw coarse pitch wheel (R15) -/
  pw : Data7
  /-- STK[0 .. LEN-1], oldest first, the top last (R16, R18); DESIGN CHOICE that R18 allows, safe: a list (log entry 3) -/
  stack : List Note
  /-- FAULT, the sticky fault flag (R84) -/
  fault : Bool
  /-- FAULT_WORD, the first faulting message (R84) -/
  faultWord : Msg
  /-- LISTEN_CH, the static configuration input (R20) -/
  listenCh : Nibble
  /-- the MODEL's own field: the host's events not yet taken, in delivery order (R33; log entry 1) -/
  pending : List HostEvent
  deriving DecidableEq, Repr

/-- The reasons the machine stops with a fault: none. The one exception of the block, InvalidArgument, is a next state with
the sticky FAULT register set (R82, R87), and every transaction is a total state transition (R83). Nobody raises one;
safe (log entry 17). -/
inductive Fault where
  deriving DecidableEq, Repr

/-- The reasons the model gives an input no meaning. -/
inductive Refusal where
  /-- An instruction with no meaning in the model; `exec` would raise it, and no arm does. Safe. -/
  | notModelled (mnemonic : String)
  /-- Two transactions overlap in time: "A model refuses a run with overlapping transactions" (R40, R101, U10). Raised by
  `step`. Safe. -/
  | overlappingTransactions
  /-- The host changes `LISTEN_CH` during a run: "a model refuses a run that changes it" (92 D9, U11). Raised by `step`
  through `holdListenCh`. Safe. -/
  | listenChannelChanged
  /-- An integer wider than 24 bits, or a list of bytes that is not exactly three, offered as a message: refused at the
  interface, not masked (92 D3, U1). Raised by `offerWord` and `offerBytes`. Safe. -/
  | notOneMessage
  /-- An argument of a source operation that does not fit its field: "cannot be presented at all, and a model refuses it at
  the interface" (R72). Raised by `SourceOp.message`. Safe. -/
  | argumentOutOfRange
  deriving DecidableEq, Repr

/-- LEN, the number of live entries of the note stack (R17). -/
def State.len (s : State) : Nat := s.stack.length

/-- The machine right after reset and at construction (R96, R97), listening on the default channel (R20), with no host event
waiting (DESIGN CHOICE, log entry 1). -/
def State.reset : State where
  cur := Config.noteRef
  gate := false
  pedal := false
  pw := Config.wheelCenter
  stack := []
  fault := false
  faultWord := 0
  listenCh := Config.defaultListenCh
  pending := []

end Sys2Proof.Machine
end

