-- ==== Sys2Proof/Machine/Registers.lean ====
section
/-! DEFINITION. The one write of each register of spec/10_state.md R10, and of the model's own list of waiting events.
Every meaning writes state through these; Laws/State.lean says what each leaves unchanged. -/

namespace Sys2Proof.Machine

/-- `CUR <- n` (R12). -/
def State.writeCur (s : State) (n : Note) : State := { s with cur := n }

/-- `GATE <- b` (R13). -/
def State.writeGate (s : State) (b : Bool) : State := { s with gate := b }

/-- `PEDAL <- b` (R14). -/
def State.writePedal (s : State) (b : Bool) : State := { s with pedal := b }

/-- `PW <- m` (R15). -/
def State.writePw (s : State) (m : Data7) : State := { s with pw := m }

/-- The note stack becomes `l`, and LEN its length (R16, R17). -/
def State.writeStack (s : State) (l : List Note) : State := { s with stack := l }

/-- `FAULT <- b` (R84). -/
def State.writeFault (s : State) (b : Bool) : State := { s with fault := b }

/-- `FAULT_WORD <- w` (R84). -/
def State.writeFaultWord (s : State) (w : Msg) : State := { s with faultWord := w }

/-- The waiting host events become `l` (log entry 1). -/
def State.writePending (s : State) (l : List HostEvent) : State := { s with pending := l }

end Sys2Proof.Machine
end

