-- ==== Sys2Proof/Machine/Flags.lean ====
section
/-! DEFINITION. The flags of the block, GATE, PEDAL and FAULT, as the operations compute them (spec/10_state.md R13, R14,
spec/60_exceptions.md R82). -/

namespace Sys2Proof.Machine

/-- The gate opens: the engine is Sounding (R13, R52). -/
def gateOn (s : State) : State := s.writeGate true

/-- The gate closes: the engine is Idle (R13, R54 case 3). -/
def gateOff (s : State) : State := s.writeGate false

/-- The sustain value as a pedal position: `held = (v >= 64)` (R44, R67). -/
def pedalHeld (v : Data7) : Bool := decide (Config.pedalThreshold ≤ v.toNat)

/-- A held-to-not-held transition of the pedal (R57). -/
def pedalLifts (old held : Bool) : Bool := old && !held

/-- FAULT is sticky: it is set, and only reset clears it (R82, R84). -/
def faultOn (s : State) : State := s.writeFault true

/-- FAULT_WORD keeps the first fault's word (R82). -/
def captureFaultWord (w : Msg) (s : State) : State := if s.fault then s else s.writeFaultWord w

end Sys2Proof.Machine
end

