-- ==== Sys2Proof/Syntax.lean ====
section
/-! DEFINITION. The instructions of the block: the message classes of spec/30_encoding.md R45, one constructor per row
of spec/opcode_table.json, and one more (discardCh0) for the channel the table leaves out because it is printed for
`LISTEN_CH` = 0. An instruction carries the operand bits of its row's pattern (R46), the ignored ones too, so that no bit
of the word is lost; the channel of an accepted message is `LISTEN_CH` itself and is not carried. -/

namespace Sys2Proof

/-- A message, after the channel filter and the range check have put it in its class (R45). -/
inductive Instr where
  /-- DISCARD for channel 0, which exists when `LISTEN_CH` is another channel: "The DISCARD rows then run over every
  `d != LISTEN_CH`" (R46, R62; log entry 5). DESIGN CHOICE: a constructor of its own, safe. -/
  | discardCh0 (status : Nibble) (data1 data2 : Byte)
  /-- DISCARD of channel 1 (R62): every other bit is ignored. -/
  | discardCh1 (status : Nibble) (data1 data2 : Byte)
  /-- DISCARD of channel 2 (R62): every other bit is ignored. -/
  | discardCh2 (status : Nibble) (data1 data2 : Byte)
  /-- DISCARD of channel 3 (R62): every other bit is ignored. -/
  | discardCh3 (status : Nibble) (data1 data2 : Byte)
  /-- DISCARD of channel 4 (R62): every other bit is ignored. -/
  | discardCh4 (status : Nibble) (data1 data2 : Byte)
  /-- DISCARD of channel 5 (R62): every other bit is ignored. -/
  | discardCh5 (status : Nibble) (data1 data2 : Byte)
  /-- DISCARD of channel 6 (R62): every other bit is ignored. -/
  | discardCh6 (status : Nibble) (data1 data2 : Byte)
  /-- DISCARD of channel 7 (R62): every other bit is ignored. -/
  | discardCh7 (status : Nibble) (data1 data2 : Byte)
  /-- DISCARD of channel 8 (R62): every other bit is ignored. -/
  | discardCh8 (status : Nibble) (data1 data2 : Byte)
  /-- DISCARD of channel 9 (R62): every other bit is ignored. -/
  | discardCh9 (status : Nibble) (data1 data2 : Byte)
  /-- DISCARD of channel 10 (R62): every other bit is ignored. -/
  | discardCh10 (status : Nibble) (data1 data2 : Byte)
  /-- DISCARD of channel 11 (R62): every other bit is ignored. -/
  | discardCh11 (status : Nibble) (data1 data2 : Byte)
  /-- DISCARD of channel 12 (R62): every other bit is ignored. -/
  | discardCh12 (status : Nibble) (data1 data2 : Byte)
  /-- DISCARD of channel 13 (R62): every other bit is ignored. -/
  | discardCh13 (status : Nibble) (data1 data2 : Byte)
  /-- DISCARD of channel 14 (R62): every other bit is ignored. -/
  | discardCh14 (status : Nibble) (data1 data2 : Byte)
  /-- DISCARD of channel 15 (R62): every other bit is ignored. -/
  | discardCh15 (status : Nibble) (data1 data2 : Byte)
  /-- INVALID_DATA, status 0x8, bit 7 of data1 set (R63): `low1` is data1[6:0], `data2` the whole byte. -/
  | invalidStatus8Data1 (low1 : Data7) (data2 : Byte)
  /-- INVALID_DATA, status 0x8, bit 7 of data2 set and data1 in range (R63; log entry 6): `low2` is data2[6:0]. -/
  | invalidStatus8Data2 (data1 low2 : Data7)
  /-- INVALID_DATA, status 0x9, bit 7 of data1 set (R63): `low1` is data1[6:0], `data2` the whole byte. -/
  | invalidStatus9Data1 (low1 : Data7) (data2 : Byte)
  /-- INVALID_DATA, status 0x9, bit 7 of data2 set and data1 in range (R63; log entry 6): `low2` is data2[6:0]. -/
  | invalidStatus9Data2 (data1 low2 : Data7)
  /-- INVALID_DATA, status 0xB, bit 7 of data1 set (R63): `low1` is data1[6:0], `data2` the whole byte. -/
  | invalidStatusBData1 (low1 : Data7) (data2 : Byte)
  /-- INVALID_DATA, status 0xB, bit 7 of data2 set and data1 in range (R63; log entry 6): `low2` is data2[6:0]. -/
  | invalidStatusBData2 (data1 low2 : Data7)
  /-- INVALID_DATA, status 0xE, bit 7 of data1 set (R63): `low1` is data1[6:0], `data2` the whole byte. -/
  | invalidStatusEData1 (low1 : Data7) (data2 : Byte)
  /-- INVALID_DATA, status 0xE, bit 7 of data2 set and data1 in range (R63; log entry 6): `low2` is data2[6:0]. -/
  | invalidStatusEData2 (data1 low2 : Data7)
  /-- NOTE_OFF (R64): release note `n`; the velocity `v` is ignored. -/
  | noteOff (n : Note) (v : Data7)
  /-- NOTE_ON_V0 (R66): a note-on with velocity zero, releasing note `n`. -/
  | noteOnV0 (n : Note)
  /-- NOTE_ON (R65): press note `n`, velocity `v` not zero. -/
  | noteOn (n : Note) (v : Data7)
  /-- CC_SUSTAIN (R67): the sustain pedal's control change, value `v`. -/
  | ccSustain (v : Data7)
  /-- CC_OTHER (R68): a control change to a controller `k` other than 0x40. -/
  | ccOther (k v : Data7)
  /-- PITCH_WHEEL (R69): coarse value `m` (data2); the fine value `l` (data1) is discarded. -/
  | pitchWheel (l m : Data7)
  /-- IGNORED, status 0x0 (R70). -/
  | ignoredStatus0 (data1 data2 : Byte)
  /-- IGNORED, status 0x1 (R70). -/
  | ignoredStatus1 (data1 data2 : Byte)
  /-- IGNORED, status 0x2 (R70). -/
  | ignoredStatus2 (data1 data2 : Byte)
  /-- IGNORED, status 0x3 (R70). -/
  | ignoredStatus3 (data1 data2 : Byte)
  /-- IGNORED, status 0x4 (R70). -/
  | ignoredStatus4 (data1 data2 : Byte)
  /-- IGNORED, status 0x5 (R70). -/
  | ignoredStatus5 (data1 data2 : Byte)
  /-- IGNORED, status 0x6 (R70). -/
  | ignoredStatus6 (data1 data2 : Byte)
  /-- IGNORED, status 0x7 (R70). -/
  | ignoredStatus7 (data1 data2 : Byte)
  /-- IGNORED, status 0xA (R70). -/
  | ignoredStatusA (data1 data2 : Byte)
  /-- IGNORED, status 0xC (R70). -/
  | ignoredStatusC (data1 data2 : Byte)
  /-- IGNORED, status 0xD (R70). -/
  | ignoredStatusD (data1 data2 : Byte)
  /-- IGNORED, status 0xF (R70). -/
  | ignoredStatusF (data1 data2 : Byte)
  deriving DecidableEq, Repr

end Sys2Proof
end

