-- ==== Sys2Proof/Decode.lean ====
section
/-! DEFINITION. The MidiMessageDecoder (spec/40_decoder.md R49), the classification of spec/30_encoding.md R45, and the
encoder written from the patterns of R46. -/

namespace Sys2Proof

/-- The word of a message from its four fields: data2, data1, status, channel, most significant first (R41, R42). -/
def packMsg (data2 data1 : Byte) (status channel : Nibble) : Msg := data2 ++ data1 ++ status ++ channel

/-- A data byte in range, with bit 7 clear (R43). -/
def byteOf (v : Data7) : Byte := 0#1 ++ v

/-- A data byte out of range, with bit 7 set (R43). -/
def badByteOf (v : Data7) : Byte := 1#1 ++ v

/-- Bits 6..0 of a data byte: the operand of an accepted message (R61: `n <- data1[6:0]; v <- data2[6:0]`). -/
def low7 (b : Byte) : Data7 := b.extractLsb' 0 7

/-- The outputs of DECODE (R49). -/
structure Fields where
  channel : Nibble
  status  : Nibble
  data1   : Byte
  data2   : Byte
  /-- the channel filter's verdict -/
  acc     : Bool
  /-- both data bytes are in 0..127 -/
  dvalid  : Bool
  deriving DecidableEq, Repr

/-- DECODE: bitfield extraction and channel acceptance, a pure and total function (R49, R50). -/
def decodeFields (c : Nibble) (w : Msg) : Fields where
  channel := w.extractLsb' 0 4
  status  := w.extractLsb' 4 4
  data1   := w.extractLsb' 8 8
  data2   := w.extractLsb' 16 8
  acc     := w.extractLsb' 0 4 == c
  dvalid  := !(w.getLsbD 15) && !(w.getLsbD 23)

/-- The statuses whose data bytes are range-checked: 0x8, 0x9, 0xB and 0xE (R43, R61). -/
def rangeChecked (status : Nibble) : Bool :=
  status == 0x8 || status == 0x9 || status == 0xB || status == 0xE

/-- The DISCARD row of a channel that is not the listening one (R62). -/
def discardInstr (channel status : Nibble) (d1 d2 : Byte) : Instr :=
  match channel.toNat with
  | 0 => .discardCh0 status d1 d2
  | 1 => .discardCh1 status d1 d2
  | 2 => .discardCh2 status d1 d2
  | 3 => .discardCh3 status d1 d2
  | 4 => .discardCh4 status d1 d2
  | 5 => .discardCh5 status d1 d2
  | 6 => .discardCh6 status d1 d2
  | 7 => .discardCh7 status d1 d2
  | 8 => .discardCh8 status d1 d2
  | 9 => .discardCh9 status d1 d2
  | 10 => .discardCh10 status d1 d2
  | 11 => .discardCh11 status d1 d2
  | 12 => .discardCh12 status d1 d2
  | 13 => .discardCh13 status d1 d2
  | 14 => .discardCh14 status d1 d2
  | _ => .discardCh15 status d1 d2

/-- The data1 row of INVALID_DATA for a range-checked status (R63). -/
def invalidData1Instr (status : Nibble) (low1 : Data7) (d2 : Byte) : Instr :=
  match status.toNat with
  | 0x8 => .invalidStatus8Data1 low1 d2
  | 0x9 => .invalidStatus9Data1 low1 d2
  | 0xB => .invalidStatusBData1 low1 d2
  | _ => .invalidStatusEData1 low1 d2

/-- The data2 row of INVALID_DATA for a range-checked status (R63). -/
def invalidData2Instr (status : Nibble) (d1 low2 : Data7) : Instr :=
  match status.toNat with
  | 0x8 => .invalidStatus8Data2 d1 low2
  | 0x9 => .invalidStatus9Data2 d1 low2
  | 0xB => .invalidStatusBData2 d1 low2
  | _ => .invalidStatusEData2 d1 low2

/-- The INVALID_DATA row of a range-checked status with a bad data byte (R63): the data1 row where data1 is bad, whatever
data2 is, else the data2 row (log entry 6). -/
def invalidInstr (status : Nibble) (d1 d2 : Byte) : Instr :=
  if d1.msb then invalidData1Instr status (low7 d1) d2 else invalidData2Instr status (low7 d1) (low7 d2)

/-- The class of an accepted message whose data bytes need no rejection: rows 3 to 9 of R45, in that order. -/
def classInstr (status : Nibble) (d1 d2 : Byte) : Instr :=
  match status.toNat with
  | 0x0 => .ignoredStatus0 d1 d2
  | 0x1 => .ignoredStatus1 d1 d2
  | 0x2 => .ignoredStatus2 d1 d2
  | 0x3 => .ignoredStatus3 d1 d2
  | 0x4 => .ignoredStatus4 d1 d2
  | 0x5 => .ignoredStatus5 d1 d2
  | 0x6 => .ignoredStatus6 d1 d2
  | 0x7 => .ignoredStatus7 d1 d2
  | 0x8 => .noteOff (low7 d1) (low7 d2)
  | 0x9 => if low7 d2 = 0 then .noteOnV0 (low7 d1) else .noteOn (low7 d1) (low7 d2)
  | 0xA => .ignoredStatusA d1 d2
  | 0xB => if low7 d1 = Config.sustainCc then .ccSustain (low7 d2) else .ccOther (low7 d1) (low7 d2)
  | 0xC => .ignoredStatusC d1 d2
  | 0xD => .ignoredStatusD d1 d2
  | 0xE => .pitchWheel (low7 d1) (low7 d2)
  | _ => .ignoredStatusF d1 d2

/-- The class a message word falls into on a block listening on channel `c`: the channel filter, then the range check, then
the status (R45, R61). Every word has one; none is refused (R47). -/
def decode (c : Nibble) (w : Msg) : Instr :=
  let f := decodeFields c w
  if f.acc then
    if rangeChecked f.status && !f.dvalid then invalidInstr f.status f.data1 f.data2
    else classInstr f.status f.data1 f.data2
  else discardInstr f.channel f.status f.data1 f.data2

/-- Why a list of bytes is no message. -/
inductive DecodeError where
  /-- fewer than three bytes: "a truncated message cannot be expressed on a 24-bit port" (R32, U1); safe -/
  | truncated
  deriving DecidableEq, Repr

/-- The first message of a list of bytes, status byte first, with the bytes after it (R32, R41). -/
def decodeBytes (c : Nibble) : List Byte → Except DecodeError (Instr × List Byte)
  | byte0 :: data1 :: data2 :: rest => .ok (decode c (data2 ++ data1 ++ byte0), rest)
  | _ => .error .truncated

/-- The three bytes of a message number, lowest first: byte0, data1, data2 (R41). -/
def msgBytes (w : Nat) : List Byte :=
  [BitVec.ofNat 8 w, BitVec.ofNat 8 (w / 2 ^ 8), BitVec.ofNat 8 (w / 2 ^ 16)]

/-- The instruction the decoder reads from a row's bits, on the default listening channel, for which the opcode table is
printed. A row is one 24-bit word; a wider number is refused at the interface, not masked (92 D3). -/
def decodeTableWord (nbits w : Nat) : Option Instr :=
  if nbits ≤ Config.msgWidth ∧ w < 2 ^ Config.msgWidth then
    match decodeBytes Config.defaultListenCh (msgBytes w) with
    | .ok (i, _) => some i
    | .error _ => none
  else none

/-- The word of an instruction on a block listening on channel `c`, from the patterns of R46. -/
def encode (c : Nibble) : Instr → Msg
  | .discardCh0 status d1 d2 => packMsg d2 d1 status 0
  | .discardCh1 status d1 d2 => packMsg d2 d1 status 1
  | .discardCh2 status d1 d2 => packMsg d2 d1 status 2
  | .discardCh3 status d1 d2 => packMsg d2 d1 status 3
  | .discardCh4 status d1 d2 => packMsg d2 d1 status 4
  | .discardCh5 status d1 d2 => packMsg d2 d1 status 5
  | .discardCh6 status d1 d2 => packMsg d2 d1 status 6
  | .discardCh7 status d1 d2 => packMsg d2 d1 status 7
  | .discardCh8 status d1 d2 => packMsg d2 d1 status 8
  | .discardCh9 status d1 d2 => packMsg d2 d1 status 9
  | .discardCh10 status d1 d2 => packMsg d2 d1 status 10
  | .discardCh11 status d1 d2 => packMsg d2 d1 status 11
  | .discardCh12 status d1 d2 => packMsg d2 d1 status 12
  | .discardCh13 status d1 d2 => packMsg d2 d1 status 13
  | .discardCh14 status d1 d2 => packMsg d2 d1 status 14
  | .discardCh15 status d1 d2 => packMsg d2 d1 status 15
  | .invalidStatus8Data1 low1 d2 => packMsg d2 (badByteOf low1) 0x8 c
  | .invalidStatus8Data2 d1 low2 => packMsg (badByteOf low2) (byteOf d1) 0x8 c
  | .invalidStatus9Data1 low1 d2 => packMsg d2 (badByteOf low1) 0x9 c
  | .invalidStatus9Data2 d1 low2 => packMsg (badByteOf low2) (byteOf d1) 0x9 c
  | .invalidStatusBData1 low1 d2 => packMsg d2 (badByteOf low1) 0xB c
  | .invalidStatusBData2 d1 low2 => packMsg (badByteOf low2) (byteOf d1) 0xB c
  | .invalidStatusEData1 low1 d2 => packMsg d2 (badByteOf low1) 0xE c
  | .invalidStatusEData2 d1 low2 => packMsg (badByteOf low2) (byteOf d1) 0xE c
  | .noteOff n v => packMsg (byteOf v) (byteOf n) 0x8 c
  | .noteOnV0 n => packMsg 0 (byteOf n) 0x9 c
  | .noteOn n v => packMsg (byteOf v) (byteOf n) 0x9 c
  | .ccSustain v => packMsg (byteOf v) 0x40 0xB c
  | .ccOther k v => packMsg (byteOf v) (byteOf k) 0xB c
  | .pitchWheel l m => packMsg (byteOf m) (byteOf l) 0xE c
  | .ignoredStatus0 d1 d2 => packMsg d2 d1 0x0 c
  | .ignoredStatus1 d1 d2 => packMsg d2 d1 0x1 c
  | .ignoredStatus2 d1 d2 => packMsg d2 d1 0x2 c
  | .ignoredStatus3 d1 d2 => packMsg d2 d1 0x3 c
  | .ignoredStatus4 d1 d2 => packMsg d2 d1 0x4 c
  | .ignoredStatus5 d1 d2 => packMsg d2 d1 0x5 c
  | .ignoredStatus6 d1 d2 => packMsg d2 d1 0x6 c
  | .ignoredStatus7 d1 d2 => packMsg d2 d1 0x7 c
  | .ignoredStatusA d1 d2 => packMsg d2 d1 0xA c
  | .ignoredStatusC d1 d2 => packMsg d2 d1 0xC c
  | .ignoredStatusD d1 d2 => packMsg d2 d1 0xD c
  | .ignoredStatusF d1 d2 => packMsg d2 d1 0xF c

end Sys2Proof
end

