-- ==== Sys2Proof/Machine/Operands.lean ====
section
/-! DEFINITION. The operands of the message classes (spec/30_encoding.md R44). The operands of an accepted, in-range message
are the fields of its instruction as they stand, with no scaling or combining; the one operand put together from parts is
the word `w` of an INVALID_DATA message (R63), whose channel is `LISTEN_CH`. -/

namespace Sys2Proof.Machine

/-- The word of an accepted message of this status whose data1 has bit 7 set (R63, R46 data1 rows; log entry 18). -/
def badData1Word (status : Nibble) (low1 : Data7) (data2 : Byte) (s : State) : Msg :=
  packMsg data2 (badByteOf low1) status s.listenCh

/-- The word of an accepted message of this status whose data2 alone has bit 7 set (R63, R46 data2 rows; log entry 18). -/
def badData2Word (status : Nibble) (data1 low2 : Data7) (s : State) : Msg :=
  packMsg (badByteOf low2) (byteOf data1) status s.listenCh

end Sys2Proof.Machine
end

