-- ==== Sys2Proof/Machine/Ops.lean ====
section
/-! DEFINITION. The shared operations: the stack primitives (spec/41_note_stack.md R51), PRESS, RELEASE, SELECT and
RELEASE_NONE (R52 to R55), SET_PEDAL and SET_PITCH_WHEEL (spec/42_controllers.md R57, R60), taking the one exception
(spec/60_exceptions.md R82), reset (spec/70_reset_and_hazards.md R96), and taking the next host event
(spec/20_memory.md R33). -/

namespace Sys2Proof.Machine

/-- StkFind(n): the least index that holds `n`, or none (R51). -/
def stkFind (n : Note) (s : State) : Option Nat := s.stack.findIdx? (· == n)

/-- StkRemoveAt(i): delete entry `i` and close the gap, keeping order (R51). -/
def stkRemoveAt (i : Nat) (s : State) : State := s.writeStack (s.stack.eraseIdx i)

/-- StkAppend(n): write `n` above the top (R51). -/
def stkAppend (n : Note) (s : State) : State := s.writeStack (s.stack ++ [n])

/-- StkTop(): the top entry; none where LEN = 0, where R51 does not define it. -/
def stkTop (s : State) : Option Note := s.stack.getLast?

/-- The removal step that PRESS and RELEASE begin with: the first occurrence of `n`, if there is one (R52, R53). -/
def removeNote (n : Note) (s : State) : State :=
  match stkFind n s with
  | some i => stkRemoveAt i s
  | none => s

/-- PRESS(n): take a note into the stack as the new top, and sound it (R52). -/
def press (n : Note) (s : State) : State := (gateOn (stkAppend n (removeNote n s))).writeCur n

/-- SELECT(): last-note priority, "in strict priority order" (R54). -/
def select (s : State) : State :=
  if s.pedal then s
  else match stkTop s with
    | some n => s.writeCur n
    | none => gateOff s

/-- RELEASE(n): take a note out of the stack, then run the selector, whether or not it was there (R53). -/
def release (n : Note) (s : State) : State := select (removeNote n s)

/-- RELEASE_NONE(): the "release nothing" sentinel, an operation of its own (R55, 92 D6). -/
def releaseNone (s : State) : State := select s

/-- SET_PEDAL(held): write the pedal, and re-evaluate on a held-to-not-held transition (R57). -/
def setPedal (held : Bool) (s : State) : State :=
  if pedalLifts s.pedal held then releaseNone (s.writePedal held) else s.writePedal held

/-- SET_PITCH_WHEEL(m): store the raw coarse value (R60). -/
def setPitchWheel (m : Data7) (s : State) : State := s.writePw m

/-- Taking the block's one exception: `raise InvalidArgument(w)`, "and nothing else" (R82). It saves no pc, changes no mode
and goes to no handler (R87); there is no return from it (R88). -/
def raiseInvalidArgument (w : Msg) (s : State) : State := faultOn (captureFaultWord w s)

/-- RESET: every register takes its construction value; `LISTEN_CH` is not changed (R96), nor are the host's waiting
events. -/
def applyReset (s : State) : State :=
  { State.reset with listenCh := s.listenCh, pending := s.pending }

/-- The next host event, in delivery order, and the state with it taken; none while the host is doing nothing (R33). -/
def takeEvent (s : State) : Option (HostEvent × State) :=
  match s.pending with
  | [] => none
  | e :: rest => some (e, s.writePending rest)

/-- `LISTEN_CH` is held constant over a run: driving it with its own value changes nothing, and another value is refused
(R20, 92 D9, U11). -/
def holdListenCh (c : Nibble) (s : State) : Host.Outcome State Fault Refusal :=
  if c = s.listenCh then .next s else .refused .listenChannelChanged

end Sys2Proof.Machine
end

