-- ==== Sys2Proof/Machine/Controllers.lean ====
section
/-! DEFINITION. The meanings of the control-change and pitch-wheel messages (spec/43_dispatch.md R67, R68, R69). -/

namespace Sys2Proof.Machine

/-- CC_SUSTAIN: `SET_PEDAL(v >= 64)`, then `RELEASE_NONE()` "regardless of direction" (R67). -/
def execCcSustain (v : Data7) (s : State) : Host.Outcome State Fault Refusal :=
  .next (releaseNone (setPedal (pedalHeld v) s))

/-- CC_OTHER: `(no effect)` (R68). -/
def execCcOther (_k _v : Data7) (s : State) : Host.Outcome State Fault Refusal :=
  .next s

/-- PITCH_WHEEL: `SET_PITCH_WHEEL(m)` (R69). The fine byte is discarded. -/
def execPitchWheel (_l m : Data7) (s : State) : Host.Outcome State Fault Refusal :=
  .next (setPitchWheel m s)

end Sys2Proof.Machine
end

