-- ==== Sys2Proof/Machine/Discard.lean ====
section
/-! DEFINITION. The meanings of the DISCARD messages (spec/43_dispatch.md R62): no effect, and no check of the data bytes. -/

namespace Sys2Proof.Machine

/-- DISCARD of channel 0: `(no effect)` (R62). -/
def execDiscardCh0 (_status : Nibble) (_data1 _data2 : Byte) (s : State) : Host.Outcome State Fault Refusal :=
  .next s

/-- DISCARD of channel 1: `(no effect)` (R62). -/
def execDiscardCh1 (_status : Nibble) (_data1 _data2 : Byte) (s : State) : Host.Outcome State Fault Refusal :=
  .next s

/-- DISCARD of channel 2: `(no effect)` (R62). -/
def execDiscardCh2 (_status : Nibble) (_data1 _data2 : Byte) (s : State) : Host.Outcome State Fault Refusal :=
  .next s

/-- DISCARD of channel 3: `(no effect)` (R62). -/
def execDiscardCh3 (_status : Nibble) (_data1 _data2 : Byte) (s : State) : Host.Outcome State Fault Refusal :=
  .next s

/-- DISCARD of channel 4: `(no effect)` (R62). -/
def execDiscardCh4 (_status : Nibble) (_data1 _data2 : Byte) (s : State) : Host.Outcome State Fault Refusal :=
  .next s

/-- DISCARD of channel 5: `(no effect)` (R62). -/
def execDiscardCh5 (_status : Nibble) (_data1 _data2 : Byte) (s : State) : Host.Outcome State Fault Refusal :=
  .next s

/-- DISCARD of channel 6: `(no effect)` (R62). -/
def execDiscardCh6 (_status : Nibble) (_data1 _data2 : Byte) (s : State) : Host.Outcome State Fault Refusal :=
  .next s

/-- DISCARD of channel 7: `(no effect)` (R62). -/
def execDiscardCh7 (_status : Nibble) (_data1 _data2 : Byte) (s : State) : Host.Outcome State Fault Refusal :=
  .next s

/-- DISCARD of channel 8: `(no effect)` (R62). -/
def execDiscardCh8 (_status : Nibble) (_data1 _data2 : Byte) (s : State) : Host.Outcome State Fault Refusal :=
  .next s

/-- DISCARD of channel 9: `(no effect)` (R62). -/
def execDiscardCh9 (_status : Nibble) (_data1 _data2 : Byte) (s : State) : Host.Outcome State Fault Refusal :=
  .next s

/-- DISCARD of channel 10: `(no effect)` (R62). -/
def execDiscardCh10 (_status : Nibble) (_data1 _data2 : Byte) (s : State) : Host.Outcome State Fault Refusal :=
  .next s

/-- DISCARD of channel 11: `(no effect)` (R62). -/
def execDiscardCh11 (_status : Nibble) (_data1 _data2 : Byte) (s : State) : Host.Outcome State Fault Refusal :=
  .next s

/-- DISCARD of channel 12: `(no effect)` (R62). -/
def execDiscardCh12 (_status : Nibble) (_data1 _data2 : Byte) (s : State) : Host.Outcome State Fault Refusal :=
  .next s

/-- DISCARD of channel 13: `(no effect)` (R62). -/
def execDiscardCh13 (_status : Nibble) (_data1 _data2 : Byte) (s : State) : Host.Outcome State Fault Refusal :=
  .next s

/-- DISCARD of channel 14: `(no effect)` (R62). -/
def execDiscardCh14 (_status : Nibble) (_data1 _data2 : Byte) (s : State) : Host.Outcome State Fault Refusal :=
  .next s

/-- DISCARD of channel 15: `(no effect)` (R62). -/
def execDiscardCh15 (_status : Nibble) (_data1 _data2 : Byte) (s : State) : Host.Outcome State Fault Refusal :=
  .next s

end Sys2Proof.Machine
end

