-- ==== Sys2Proof/Machine/Ignored.lean ====
section
/-! DEFINITION. The meanings of the IGNORED messages (spec/43_dispatch.md R70): no effect, and no check of the data bytes. -/

namespace Sys2Proof.Machine

/-- IGNORED, status 0x0: `(no effect)` (R70). -/
def execIgnoredStatus0 (_data1 _data2 : Byte) (s : State) : Host.Outcome State Fault Refusal :=
  .next s

/-- IGNORED, status 0x1: `(no effect)` (R70). -/
def execIgnoredStatus1 (_data1 _data2 : Byte) (s : State) : Host.Outcome State Fault Refusal :=
  .next s

/-- IGNORED, status 0x2: `(no effect)` (R70). -/
def execIgnoredStatus2 (_data1 _data2 : Byte) (s : State) : Host.Outcome State Fault Refusal :=
  .next s

/-- IGNORED, status 0x3: `(no effect)` (R70). -/
def execIgnoredStatus3 (_data1 _data2 : Byte) (s : State) : Host.Outcome State Fault Refusal :=
  .next s

/-- IGNORED, status 0x4: `(no effect)` (R70). -/
def execIgnoredStatus4 (_data1 _data2 : Byte) (s : State) : Host.Outcome State Fault Refusal :=
  .next s

/-- IGNORED, status 0x5: `(no effect)` (R70). -/
def execIgnoredStatus5 (_data1 _data2 : Byte) (s : State) : Host.Outcome State Fault Refusal :=
  .next s

/-- IGNORED, status 0x6: `(no effect)` (R70). -/
def execIgnoredStatus6 (_data1 _data2 : Byte) (s : State) : Host.Outcome State Fault Refusal :=
  .next s

/-- IGNORED, status 0x7: `(no effect)` (R70). -/
def execIgnoredStatus7 (_data1 _data2 : Byte) (s : State) : Host.Outcome State Fault Refusal :=
  .next s

/-- IGNORED, status 0xA: `(no effect)` (R70). -/
def execIgnoredStatusA (_data1 _data2 : Byte) (s : State) : Host.Outcome State Fault Refusal :=
  .next s

/-- IGNORED, status 0xC: `(no effect)` (R70). -/
def execIgnoredStatusC (_data1 _data2 : Byte) (s : State) : Host.Outcome State Fault Refusal :=
  .next s

/-- IGNORED, status 0xD: `(no effect)` (R70). -/
def execIgnoredStatusD (_data1 _data2 : Byte) (s : State) : Host.Outcome State Fault Refusal :=
  .next s

/-- IGNORED, status 0xF: `(no effect)` (R70). -/
def execIgnoredStatusF (_data1 _data2 : Byte) (s : State) : Host.Outcome State Fault Refusal :=
  .next s

end Sys2Proof.Machine
end

