-- ==== Sys2Proof/Machine/InvalidData.lean ====
section
/-! DEFINITION. The meanings of the INVALID_DATA messages (spec/43_dispatch.md R63): each takes the exception InvalidArgument
(spec/60_exceptions.md R82) with its own word, and has no other effect. -/

namespace Sys2Proof.Machine

/-- INVALID_DATA, status 0x8, data1 out of range: `raise InvalidArgument(w)` (R63, R82). -/
def execInvalidStatus8Data1 (low1 : Data7) (data2 : Byte) (s : State) : Host.Outcome State Fault Refusal :=
  .next (raiseInvalidArgument (badData1Word 0x8 low1 data2 s) s)

/-- INVALID_DATA, status 0x8, data2 out of range: `raise InvalidArgument(w)` (R63, R82). -/
def execInvalidStatus8Data2 (data1 low2 : Data7) (s : State) : Host.Outcome State Fault Refusal :=
  .next (raiseInvalidArgument (badData2Word 0x8 data1 low2 s) s)

/-- INVALID_DATA, status 0x9, data1 out of range: `raise InvalidArgument(w)` (R63, R82). -/
def execInvalidStatus9Data1 (low1 : Data7) (data2 : Byte) (s : State) : Host.Outcome State Fault Refusal :=
  .next (raiseInvalidArgument (badData1Word 0x9 low1 data2 s) s)

/-- INVALID_DATA, status 0x9, data2 out of range: `raise InvalidArgument(w)` (R63, R82). -/
def execInvalidStatus9Data2 (data1 low2 : Data7) (s : State) : Host.Outcome State Fault Refusal :=
  .next (raiseInvalidArgument (badData2Word 0x9 data1 low2 s) s)

/-- INVALID_DATA, status 0xB, data1 out of range: `raise InvalidArgument(w)` (R63, R82). -/
def execInvalidStatusBData1 (low1 : Data7) (data2 : Byte) (s : State) : Host.Outcome State Fault Refusal :=
  .next (raiseInvalidArgument (badData1Word 0xB low1 data2 s) s)

/-- INVALID_DATA, status 0xB, data2 out of range: `raise InvalidArgument(w)` (R63, R82). -/
def execInvalidStatusBData2 (data1 low2 : Data7) (s : State) : Host.Outcome State Fault Refusal :=
  .next (raiseInvalidArgument (badData2Word 0xB data1 low2 s) s)

/-- INVALID_DATA, status 0xE, data1 out of range: `raise InvalidArgument(w)` (R63, R82). -/
def execInvalidStatusEData1 (low1 : Data7) (data2 : Byte) (s : State) : Host.Outcome State Fault Refusal :=
  .next (raiseInvalidArgument (badData1Word 0xE low1 data2 s) s)

/-- INVALID_DATA, status 0xE, data2 out of range: `raise InvalidArgument(w)` (R63, R82). -/
def execInvalidStatusEData2 (data1 low2 : Data7) (s : State) : Host.Outcome State Fault Refusal :=
  .next (raiseInvalidArgument (badData2Word 0xE data1 low2 s) s)

end Sys2Proof.Machine
end

