-- ==== Sys2Proof/Machine/Notes.lean ====
section
/-! DEFINITION. The meanings of the note messages (spec/43_dispatch.md R64, R65, R66). -/

namespace Sys2Proof.Machine

/-- NOTE_OFF: `RELEASE(n)` (R64). The release velocity is ignored. -/
def execNoteOff (n : Note) (_v : Data7) (s : State) : Host.Outcome State Fault Refusal :=
  .next (release n s)

/-- NOTE_ON_V0: `RELEASE(n)`, the alternate encoding of a note-off (R66, R48). -/
def execNoteOnV0 (n : Note) (s : State) : Host.Outcome State Fault Refusal :=
  .next (release n s)

/-- NOTE_ON: `PRESS(n)` (R65). Any non-zero velocity has the same effect. -/
def execNoteOn (n : Note) (_v : Data7) (s : State) : Host.Outcome State Fault Refusal :=
  .next (press n s)

end Sys2Proof.Machine
end

