-- ==== Sys2Proof/Machine/Dispatch.lean ====
section
/-! DEFINITION. The case split of PROCESS_MESSAGE over the message classes (spec/43_dispatch.md R61). -/

namespace Sys2Proof.Machine

def exec (i : Instr) (s : State) : Host.Outcome State Fault Refusal :=
  match i with
  | .discardCh0 status d1 d2 => Sys2Proof.Machine.execDiscardCh0 status d1 d2 s
  | .discardCh1 status d1 d2 => Sys2Proof.Machine.execDiscardCh1 status d1 d2 s
  | .discardCh2 status d1 d2 => Sys2Proof.Machine.execDiscardCh2 status d1 d2 s
  | .discardCh3 status d1 d2 => Sys2Proof.Machine.execDiscardCh3 status d1 d2 s
  | .discardCh4 status d1 d2 => Sys2Proof.Machine.execDiscardCh4 status d1 d2 s
  | .discardCh5 status d1 d2 => Sys2Proof.Machine.execDiscardCh5 status d1 d2 s
  | .discardCh6 status d1 d2 => Sys2Proof.Machine.execDiscardCh6 status d1 d2 s
  | .discardCh7 status d1 d2 => Sys2Proof.Machine.execDiscardCh7 status d1 d2 s
  | .discardCh8 status d1 d2 => Sys2Proof.Machine.execDiscardCh8 status d1 d2 s
  | .discardCh9 status d1 d2 => Sys2Proof.Machine.execDiscardCh9 status d1 d2 s
  | .discardCh10 status d1 d2 => Sys2Proof.Machine.execDiscardCh10 status d1 d2 s
  | .discardCh11 status d1 d2 => Sys2Proof.Machine.execDiscardCh11 status d1 d2 s
  | .discardCh12 status d1 d2 => Sys2Proof.Machine.execDiscardCh12 status d1 d2 s
  | .discardCh13 status d1 d2 => Sys2Proof.Machine.execDiscardCh13 status d1 d2 s
  | .discardCh14 status d1 d2 => Sys2Proof.Machine.execDiscardCh14 status d1 d2 s
  | .discardCh15 status d1 d2 => Sys2Proof.Machine.execDiscardCh15 status d1 d2 s
  | .invalidStatus8Data1 low1 d2 => Sys2Proof.Machine.execInvalidStatus8Data1 low1 d2 s
  | .invalidStatus8Data2 d1 low2 => Sys2Proof.Machine.execInvalidStatus8Data2 d1 low2 s
  | .invalidStatus9Data1 low1 d2 => Sys2Proof.Machine.execInvalidStatus9Data1 low1 d2 s
  | .invalidStatus9Data2 d1 low2 => Sys2Proof.Machine.execInvalidStatus9Data2 d1 low2 s
  | .invalidStatusBData1 low1 d2 => Sys2Proof.Machine.execInvalidStatusBData1 low1 d2 s
  | .invalidStatusBData2 d1 low2 => Sys2Proof.Machine.execInvalidStatusBData2 d1 low2 s
  | .invalidStatusEData1 low1 d2 => Sys2Proof.Machine.execInvalidStatusEData1 low1 d2 s
  | .invalidStatusEData2 d1 low2 => Sys2Proof.Machine.execInvalidStatusEData2 d1 low2 s
  | .noteOff n v => Sys2Proof.Machine.execNoteOff n v s
  | .noteOnV0 n => Sys2Proof.Machine.execNoteOnV0 n s
  | .noteOn n v => Sys2Proof.Machine.execNoteOn n v s
  | .ccSustain v => Sys2Proof.Machine.execCcSustain v s
  | .ccOther k v => Sys2Proof.Machine.execCcOther k v s
  | .pitchWheel l m => Sys2Proof.Machine.execPitchWheel l m s
  | .ignoredStatus0 d1 d2 => Sys2Proof.Machine.execIgnoredStatus0 d1 d2 s
  | .ignoredStatus1 d1 d2 => Sys2Proof.Machine.execIgnoredStatus1 d1 d2 s
  | .ignoredStatus2 d1 d2 => Sys2Proof.Machine.execIgnoredStatus2 d1 d2 s
  | .ignoredStatus3 d1 d2 => Sys2Proof.Machine.execIgnoredStatus3 d1 d2 s
  | .ignoredStatus4 d1 d2 => Sys2Proof.Machine.execIgnoredStatus4 d1 d2 s
  | .ignoredStatus5 d1 d2 => Sys2Proof.Machine.execIgnoredStatus5 d1 d2 s
  | .ignoredStatus6 d1 d2 => Sys2Proof.Machine.execIgnoredStatus6 d1 d2 s
  | .ignoredStatus7 d1 d2 => Sys2Proof.Machine.execIgnoredStatus7 d1 d2 s
  | .ignoredStatusA d1 d2 => Sys2Proof.Machine.execIgnoredStatusA d1 d2 s
  | .ignoredStatusC d1 d2 => Sys2Proof.Machine.execIgnoredStatusC d1 d2 s
  | .ignoredStatusD d1 d2 => Sys2Proof.Machine.execIgnoredStatusD d1 d2 s
  | .ignoredStatusF d1 d2 => Sys2Proof.Machine.execIgnoredStatusF d1 d2 s

end Sys2Proof.Machine
end

