-- ==== Sys2Proof/Machine/Step.lean ====
section
/-! DEFINITION. One step of the block: it takes the host's next event and runs it to completion (spec/43_dispatch.md R61, R73,
spec/20_memory.md R33, R34). -/

namespace Sys2Proof.Machine

/-- One step. With no event waiting the block "holds its state and does nothing" (R95). A message is decoded on the
listening channel and run (R61); a reset is R96; a reading of the outputs writes nothing (R74); overlapping transactions
have no meaning (R40). -/
def step (s : State) : Host.Outcome State Fault Refusal :=
  match takeEvent s with
  | none => .next s
  | some (.transaction (.message w), t) => exec (decode t.listenCh w) t
  | some (.transaction .reset, t) => .next (applyReset t)
  | some (.readSignals, t) => .next t
  | some (.overlapping _ _, _) => .refused .overlappingTransactions
  | some (.driveListenCh c, t) => holdListenCh c t

/-- `s` with the host about to deliver this message before anything else it has waiting (log entry 9). -/
def State.withFetchWord (s : State) (nbits w : Nat) : State :=
  s.writePending (.transaction (.message (BitVec.ofNat 24 (w % 2 ^ nbits))) :: s.pending)

end Sys2Proof.Machine
end

