-- ==== Sys2Proof/WellFormed.lean ====
section
/-! DEFINITION. Which instructions a block listening on a given channel can decode: the side conditions of the class table
(spec/30_encoding.md R45, R46) that the operands' types do not already carry. -/

namespace Sys2Proof

/-- `i` is a message of the class it names, for a block whose `LISTEN_CH` is `c`: a discarded channel is not the listening
one (R62), a NOTE_ON has a velocity (R65), a CC_OTHER is not the sustain controller (R68). -/
def WellFormed (c : Nibble) : Instr → Bool
  | .discardCh0 _ _ _ => c != 0
  | .discardCh1 _ _ _ => c != 1
  | .discardCh2 _ _ _ => c != 2
  | .discardCh3 _ _ _ => c != 3
  | .discardCh4 _ _ _ => c != 4
  | .discardCh5 _ _ _ => c != 5
  | .discardCh6 _ _ _ => c != 6
  | .discardCh7 _ _ _ => c != 7
  | .discardCh8 _ _ _ => c != 8
  | .discardCh9 _ _ _ => c != 9
  | .discardCh10 _ _ _ => c != 10
  | .discardCh11 _ _ _ => c != 11
  | .discardCh12 _ _ _ => c != 12
  | .discardCh13 _ _ _ => c != 13
  | .discardCh14 _ _ _ => c != 14
  | .discardCh15 _ _ _ => c != 15
  | .invalidStatus8Data1 _ _ => true
  | .invalidStatus8Data2 _ _ => true
  | .invalidStatus9Data1 _ _ => true
  | .invalidStatus9Data2 _ _ => true
  | .invalidStatusBData1 _ _ => true
  | .invalidStatusBData2 _ _ => true
  | .invalidStatusEData1 _ _ => true
  | .invalidStatusEData2 _ _ => true
  | .noteOff _ _ => true
  | .noteOnV0 _ => true
  | .noteOn _ v => v != 0
  | .ccSustain _ => true
  | .ccOther k _ => k != Config.sustainCc
  | .pitchWheel _ _ => true
  | .ignoredStatus0 _ _ => true
  | .ignoredStatus1 _ _ => true
  | .ignoredStatus2 _ _ => true
  | .ignoredStatus3 _ _ => true
  | .ignoredStatus4 _ _ => true
  | .ignoredStatus5 _ _ => true
  | .ignoredStatus6 _ _ => true
  | .ignoredStatus7 _ _ => true
  | .ignoredStatusA _ _ => true
  | .ignoredStatusC _ _ => true
  | .ignoredStatusD _ _ => true
  | .ignoredStatusF _ _ => true

end Sys2Proof
end

