-- ==== Sys2Proof/Laws/Decode.lean ====
section
/-! SUPPORT. What DECODE reads from a word put together from its four fields, and the decoder on such a word. -/

namespace Sys2Proof

/-! ### The fields of a packed word (R41, R42, R43) -/

/-- The bits of a packed word (R41, R42). -/
theorem packMsg_getLsbD (d2 d1 : Byte) (st ch : Nibble) (i : Nat) :
    (packMsg d2 d1 st ch).getLsbD i =
      if i < 4 then ch.getLsbD i
      else if i < 8 then st.getLsbD (i - 4)
      else if i < 16 then d1.getLsbD (i - 8)
      else d2.getLsbD (i - 16) := by
  show BitVec.getLsbD (d2 ++ d1 ++ st ++ ch) i = _
  rw [BitVec.getLsbD_append, BitVec.getLsbD_append, BitVec.getLsbD_append]
  by_cases h0 : i < 4
  · simp [h0]
  · by_cases h1 : i < 8
    · simp [h0, h1, show i - 4 < 4 by omega]
    · by_cases h2 : i < 16
      · simp [h0, h1, h2, show ¬ i - 4 < 4 by omega, show i - 4 - 4 = i - 8 by omega,
          show i - 8 < 8 by omega]
      · simp [h0, h1, h2, show ¬ i - 4 < 4 by omega, show ¬ i - 4 - 4 < 8 by omega,
          show i - 4 - 4 - 8 = i - 16 by omega]

@[simp] theorem packMsg_channel (d2 d1 : Byte) (st ch : Nibble) :
    (packMsg d2 d1 st ch).extractLsb' 0 4 = ch := by
  apply BitVec.eq_of_getLsbD_eq
  intro i hi
  rw [BitVec.getLsbD_extractLsb', packMsg_getLsbD]
  simp [hi]

@[simp] theorem packMsg_status (d2 d1 : Byte) (st ch : Nibble) :
    (packMsg d2 d1 st ch).extractLsb' 4 4 = st := by
  apply BitVec.eq_of_getLsbD_eq
  intro i hi
  rw [BitVec.getLsbD_extractLsb', packMsg_getLsbD]
  simp [hi, show 4 + i < 8 by omega]

@[simp] theorem packMsg_data1 (d2 d1 : Byte) (st ch : Nibble) :
    (packMsg d2 d1 st ch).extractLsb' 8 8 = d1 := by
  apply BitVec.eq_of_getLsbD_eq
  intro i hi
  rw [BitVec.getLsbD_extractLsb', packMsg_getLsbD]
  simp [hi, show ¬ 8 + i < 4 by omega, show 8 + i < 16 by omega]

@[simp] theorem packMsg_data2 (d2 d1 : Byte) (st ch : Nibble) :
    (packMsg d2 d1 st ch).extractLsb' 16 8 = d2 := by
  apply BitVec.eq_of_getLsbD_eq
  intro i hi
  rw [BitVec.getLsbD_extractLsb', packMsg_getLsbD]
  simp [hi, show ¬ 16 + i < 4 by omega, show ¬ 16 + i < 8 by omega]

@[simp] theorem packMsg_bit15 (d2 d1 : Byte) (st ch : Nibble) : (packMsg d2 d1 st ch)[15] = d1.msb := by
  rw [← BitVec.getLsbD_eq_getElem, packMsg_getLsbD]
  simp [BitVec.msb_eq_getLsbD_last]

@[simp] theorem packMsg_bit23 (d2 d1 : Byte) (st ch : Nibble) : (packMsg d2 d1 st ch)[23] = d2.msb := by
  rw [← BitVec.getLsbD_eq_getElem, packMsg_getLsbD]
  simp [BitVec.msb_eq_getLsbD_last]

/-- Every word is its four fields packed (R41, R42). -/
theorem packMsg_fields (w : Msg) :
    packMsg (w.extractLsb' 16 8) (w.extractLsb' 8 8) (w.extractLsb' 4 4) (w.extractLsb' 0 4) = w := by
  apply BitVec.eq_of_getLsbD_eq
  intro i hi
  simp only [packMsg_getLsbD, BitVec.getLsbD_extractLsb']
  by_cases h0 : i < 4
  · simp [h0]
  · by_cases h1 : i < 8
    · simp [h0, h1, show i - 4 < 4 by omega, show 4 + (i - 4) = i by omega]
    · by_cases h2 : i < 16
      · simp [h0, h1, h2, show i - 8 < 8 by omega, show 8 + (i - 8) = i by omega]
      · simp [h0, h1, h2, show i - 16 < 8 by omega, show 16 + (i - 16) = i by omega]

/-! ### Data bytes in and out of range (R43) -/

@[simp] theorem low7_byteOf : ∀ v : Data7, low7 (byteOf v) = v := by decide

@[simp] theorem low7_badByteOf : ∀ v : Data7, low7 (badByteOf v) = v := by decide

@[simp] theorem msb_byteOf : ∀ v : Data7, (byteOf v).msb = false := by decide

@[simp] theorem msb_badByteOf : ∀ v : Data7, (badByteOf v).msb = true := by decide

/-- A byte is its low seven bits under its top bit. -/
theorem byteOf_low7 (b : Byte) : (if b.msb then badByteOf (low7 b) else byteOf (low7 b)) = b := by
  revert b
  decide

/-! ### The decoder -/

/-- The decoder on a packed word: the channel filter, then the range check, then the class (R45, R61). -/
theorem decode_packMsg (c : Nibble) (d2 d1 : Byte) (st ch : Nibble) :
    decode c (packMsg d2 d1 st ch) =
      if ch = c then
        if rangeChecked st = true ∧ (d1.msb = true ∨ d2.msb = true) then invalidInstr st d1 d2
        else classInstr st d1 d2
      else discardInstr ch st d1 d2 := by
  simp [decode, decodeFields]

/-- An accepted message whose data bytes are in range is decoded by its status alone. -/
theorem decode_accepted (c : Nibble) (d2 d1 : Byte) (st : Nibble) (h1 : d1.msb = false) (h2 : d2.msb = false) :
    decode c (packMsg d2 d1 st c) = classInstr st d1 d2 := by
  simp [decode_packMsg, h1, h2]

/-- A message of a status that is not range-checked is decoded by its status alone. -/
theorem decode_unchecked (c : Nibble) (d2 d1 : Byte) (st : Nibble) (h : rangeChecked st = false) :
    decode c (packMsg d2 d1 st c) = classInstr st d1 d2 := by
  simp [decode_packMsg, h]

/-- An accepted message of a range-checked status with a data byte out of range is an INVALID_DATA. -/
theorem decode_invalid (c : Nibble) (d2 d1 : Byte) (st : Nibble) (h : rangeChecked st = true)
    (hd : d1.msb = true ∨ d2.msb = true) : decode c (packMsg d2 d1 st c) = invalidInstr st d1 d2 := by
  simp [decode_packMsg, h, hd]

/-- A message of another channel is a DISCARD. -/
theorem decode_discard (c : Nibble) (d2 d1 : Byte) (st ch : Nibble) (h : ch ≠ c) :
    decode c (packMsg d2 d1 st ch) = discardInstr ch st d1 d2 := by
  simp [decode_packMsg, h]

end Sys2Proof
end

