-- ==== Sys2Proof/Laws/PerInstr.lean ====
section
/-! SUPPORT. The statement family RoundTrip: a well-formed instruction is what its own encoding decodes to, one lemma per
constructor of Instr. Each lemma is the decoder's law for its kind of word (Laws/Decode.lean), read at one row. -/

namespace Sys2Proof.Laws.RoundTrip

/-- Decoding the word of `i` on the channel it is encoded for gives `i` back, with every operand. -/
def Statement (i : Instr) : Prop := ∀ c : Nibble, WellFormed c i = true → decode c (encode c i) = i

theorem channel_ne {c d : Nibble} (h : (c != d) = true) : d ≠ c := fun e => by simp [e] at h

theorem invalidInstr_data1 (st : Nibble) (low1 : Data7) (d2 : Byte) :
    invalidInstr st (badByteOf low1) d2 = invalidData1Instr st low1 d2 :=
  (if_pos (msb_badByteOf low1)).trans (by rw [low7_badByteOf])

theorem invalidInstr_data2 (st : Nibble) (d1 low2 : Data7) :
    invalidInstr st (byteOf d1) (badByteOf low2) = invalidData2Instr st d1 low2 :=
  (if_neg (by rw [msb_byteOf]; decide)).trans (by rw [low7_byteOf, low7_badByteOf])

theorem discardCh0 (st : Nibble) (d1 d2 : Byte) : Statement (.discardCh0 st d1 d2) := fun c h =>
  decode_discard c d2 d1 st 0 (channel_ne h)

theorem discardCh1 (st : Nibble) (d1 d2 : Byte) : Statement (.discardCh1 st d1 d2) := fun c h =>
  decode_discard c d2 d1 st 1 (channel_ne h)

theorem discardCh2 (st : Nibble) (d1 d2 : Byte) : Statement (.discardCh2 st d1 d2) := fun c h =>
  decode_discard c d2 d1 st 2 (channel_ne h)

theorem discardCh3 (st : Nibble) (d1 d2 : Byte) : Statement (.discardCh3 st d1 d2) := fun c h =>
  decode_discard c d2 d1 st 3 (channel_ne h)

theorem discardCh4 (st : Nibble) (d1 d2 : Byte) : Statement (.discardCh4 st d1 d2) := fun c h =>
  decode_discard c d2 d1 st 4 (channel_ne h)

theorem discardCh5 (st : Nibble) (d1 d2 : Byte) : Statement (.discardCh5 st d1 d2) := fun c h =>
  decode_discard c d2 d1 st 5 (channel_ne h)

theorem discardCh6 (st : Nibble) (d1 d2 : Byte) : Statement (.discardCh6 st d1 d2) := fun c h =>
  decode_discard c d2 d1 st 6 (channel_ne h)

theorem discardCh7 (st : Nibble) (d1 d2 : Byte) : Statement (.discardCh7 st d1 d2) := fun c h =>
  decode_discard c d2 d1 st 7 (channel_ne h)

theorem discardCh8 (st : Nibble) (d1 d2 : Byte) : Statement (.discardCh8 st d1 d2) := fun c h =>
  decode_discard c d2 d1 st 8 (channel_ne h)

theorem discardCh9 (st : Nibble) (d1 d2 : Byte) : Statement (.discardCh9 st d1 d2) := fun c h =>
  decode_discard c d2 d1 st 9 (channel_ne h)

theorem discardCh10 (st : Nibble) (d1 d2 : Byte) : Statement (.discardCh10 st d1 d2) := fun c h =>
  decode_discard c d2 d1 st 10 (channel_ne h)

theorem discardCh11 (st : Nibble) (d1 d2 : Byte) : Statement (.discardCh11 st d1 d2) := fun c h =>
  decode_discard c d2 d1 st 11 (channel_ne h)

theorem discardCh12 (st : Nibble) (d1 d2 : Byte) : Statement (.discardCh12 st d1 d2) := fun c h =>
  decode_discard c d2 d1 st 12 (channel_ne h)

theorem discardCh13 (st : Nibble) (d1 d2 : Byte) : Statement (.discardCh13 st d1 d2) := fun c h =>
  decode_discard c d2 d1 st 13 (channel_ne h)

theorem discardCh14 (st : Nibble) (d1 d2 : Byte) : Statement (.discardCh14 st d1 d2) := fun c h =>
  decode_discard c d2 d1 st 14 (channel_ne h)

theorem discardCh15 (st : Nibble) (d1 d2 : Byte) : Statement (.discardCh15 st d1 d2) := fun c h =>
  decode_discard c d2 d1 st 15 (channel_ne h)

theorem invalidStatus8Data1 (low1 : Data7) (d2 : Byte) : Statement (.invalidStatus8Data1 low1 d2) := fun c _ =>
  (decode_invalid c d2 (badByteOf low1) 0x8 rfl (.inl (msb_badByteOf low1))).trans (invalidInstr_data1 0x8 low1 d2)

theorem invalidStatus8Data2 (d1 low2 : Data7) : Statement (.invalidStatus8Data2 d1 low2) := fun c _ =>
  (decode_invalid c (badByteOf low2) (byteOf d1) 0x8 rfl (.inr (msb_badByteOf low2))).trans
    (invalidInstr_data2 0x8 d1 low2)

theorem invalidStatus9Data1 (low1 : Data7) (d2 : Byte) : Statement (.invalidStatus9Data1 low1 d2) := fun c _ =>
  (decode_invalid c d2 (badByteOf low1) 0x9 rfl (.inl (msb_badByteOf low1))).trans (invalidInstr_data1 0x9 low1 d2)

theorem invalidStatus9Data2 (d1 low2 : Data7) : Statement (.invalidStatus9Data2 d1 low2) := fun c _ =>
  (decode_invalid c (badByteOf low2) (byteOf d1) 0x9 rfl (.inr (msb_badByteOf low2))).trans
    (invalidInstr_data2 0x9 d1 low2)

theorem invalidStatusBData1 (low1 : Data7) (d2 : Byte) : Statement (.invalidStatusBData1 low1 d2) := fun c _ =>
  (decode_invalid c d2 (badByteOf low1) 0xB rfl (.inl (msb_badByteOf low1))).trans (invalidInstr_data1 0xB low1 d2)

theorem invalidStatusBData2 (d1 low2 : Data7) : Statement (.invalidStatusBData2 d1 low2) := fun c _ =>
  (decode_invalid c (badByteOf low2) (byteOf d1) 0xB rfl (.inr (msb_badByteOf low2))).trans
    (invalidInstr_data2 0xB d1 low2)

theorem invalidStatusEData1 (low1 : Data7) (d2 : Byte) : Statement (.invalidStatusEData1 low1 d2) := fun c _ =>
  (decode_invalid c d2 (badByteOf low1) 0xE rfl (.inl (msb_badByteOf low1))).trans (invalidInstr_data1 0xE low1 d2)

theorem invalidStatusEData2 (d1 low2 : Data7) : Statement (.invalidStatusEData2 d1 low2) := fun c _ =>
  (decode_invalid c (badByteOf low2) (byteOf d1) 0xE rfl (.inr (msb_badByteOf low2))).trans
    (invalidInstr_data2 0xE d1 low2)

theorem noteOff (n : Note) (v : Data7) : Statement (.noteOff n v) := fun c _ => by
  refine (decode_accepted c (byteOf v) (byteOf n) 0x8 (msb_byteOf n) (msb_byteOf v)).trans ?_
  show Instr.noteOff (low7 (byteOf n)) (low7 (byteOf v)) = _
  rw [low7_byteOf, low7_byteOf]

theorem noteOnV0 (n : Note) : Statement (.noteOnV0 n) := fun c _ => by
  refine (decode_accepted c 0 (byteOf n) 0x9 (msb_byteOf n) rfl).trans ?_
  show Instr.noteOnV0 (low7 (byteOf n)) = _
  rw [low7_byteOf]

theorem noteOn (n : Note) (v : Data7) : Statement (.noteOn n v) := fun c h => by
  have hv : v ≠ 0 := fun e => by subst e; exact absurd h Bool.false_ne_true
  refine (decode_accepted c (byteOf v) (byteOf n) 0x9 (msb_byteOf n) (msb_byteOf v)).trans ?_
  show (if low7 (byteOf v) = 0 then Instr.noteOnV0 (low7 (byteOf n))
    else .noteOn (low7 (byteOf n)) (low7 (byteOf v))) = _
  rw [low7_byteOf, low7_byteOf, if_neg hv]

theorem ccSustain (v : Data7) : Statement (.ccSustain v) := fun c _ => by
  refine (decode_accepted c (byteOf v) 0x40 0xB rfl (msb_byteOf v)).trans ?_
  show Instr.ccSustain (low7 (byteOf v)) = _
  rw [low7_byteOf]

theorem ccOther (k v : Data7) : Statement (.ccOther k v) := fun c h => by
  have hk : k ≠ Config.sustainCc := fun e => by subst e; exact absurd h Bool.false_ne_true
  refine (decode_accepted c (byteOf v) (byteOf k) 0xB (msb_byteOf k) (msb_byteOf v)).trans ?_
  show (if low7 (byteOf k) = Config.sustainCc then Instr.ccSustain (low7 (byteOf v))
    else .ccOther (low7 (byteOf k)) (low7 (byteOf v))) = _
  rw [low7_byteOf, low7_byteOf, if_neg hk]

theorem pitchWheel (l m : Data7) : Statement (.pitchWheel l m) := fun c _ => by
  refine (decode_accepted c (byteOf m) (byteOf l) 0xE (msb_byteOf l) (msb_byteOf m)).trans ?_
  show Instr.pitchWheel (low7 (byteOf l)) (low7 (byteOf m)) = _
  rw [low7_byteOf, low7_byteOf]

theorem ignoredStatus0 (d1 d2 : Byte) : Statement (.ignoredStatus0 d1 d2) := fun c _ =>
  decode_unchecked c d2 d1 0x0 rfl

theorem ignoredStatus1 (d1 d2 : Byte) : Statement (.ignoredStatus1 d1 d2) := fun c _ =>
  decode_unchecked c d2 d1 0x1 rfl

theorem ignoredStatus2 (d1 d2 : Byte) : Statement (.ignoredStatus2 d1 d2) := fun c _ =>
  decode_unchecked c d2 d1 0x2 rfl

theorem ignoredStatus3 (d1 d2 : Byte) : Statement (.ignoredStatus3 d1 d2) := fun c _ =>
  decode_unchecked c d2 d1 0x3 rfl

theorem ignoredStatus4 (d1 d2 : Byte) : Statement (.ignoredStatus4 d1 d2) := fun c _ =>
  decode_unchecked c d2 d1 0x4 rfl

theorem ignoredStatus5 (d1 d2 : Byte) : Statement (.ignoredStatus5 d1 d2) := fun c _ =>
  decode_unchecked c d2 d1 0x5 rfl

theorem ignoredStatus6 (d1 d2 : Byte) : Statement (.ignoredStatus6 d1 d2) := fun c _ =>
  decode_unchecked c d2 d1 0x6 rfl

theorem ignoredStatus7 (d1 d2 : Byte) : Statement (.ignoredStatus7 d1 d2) := fun c _ =>
  decode_unchecked c d2 d1 0x7 rfl

theorem ignoredStatusA (d1 d2 : Byte) : Statement (.ignoredStatusA d1 d2) := fun c _ =>
  decode_unchecked c d2 d1 0xA rfl

theorem ignoredStatusC (d1 d2 : Byte) : Statement (.ignoredStatusC d1 d2) := fun c _ =>
  decode_unchecked c d2 d1 0xC rfl

theorem ignoredStatusD (d1 d2 : Byte) : Statement (.ignoredStatusD d1 d2) := fun c _ =>
  decode_unchecked c d2 d1 0xD rfl

theorem ignoredStatusF (d1 d2 : Byte) : Statement (.ignoredStatusF d1 d2) := fun c _ =>
  decode_unchecked c d2 d1 0xF rfl

end Sys2Proof.Laws.RoundTrip
end

