-- ==== Sys2Proof/Machine/Ieee.lean ====
section
/-! DEFINITION. Rounding a rational to an IEEE 754 format, to the nearest value with ties to even: the `RNE64` and `RNE32` of
spec/44_signals.md R78. R78 needs normal numbers and zero alone ("There are no NaNs, infinities, subnormals or overflow"),
and these definitions are meant for those (log entry 11). -/

namespace Sys2Proof.Machine

/-- A binary interchange format: its width, the bits of its significand (the hidden one counted) and its exponent bias. -/
structure IeeeFormat where
  width : Nat
  precision : Nat
  bias : Nat
  deriving DecidableEq, Repr

/-- IEEE 754 binary64 (R78). -/
def binary64 : IeeeFormat where
  width := 64
  precision := 53
  bias := 1023

/-- IEEE 754 binary32 (R78). -/
def binary32 : IeeeFormat where
  width := 32
  precision := 24
  bias := 127

/-- The whole number nearest `a / b`, ties to even. -/
def divNearestEven (a b : Nat) : Nat :=
  let q := a / b
  let r := a % b
  if 2 * r < b then q
  else if b < 2 * r then q + 1
  else if q % 2 = 0 then q
  else q + 1

/-- The exponent `e` with `2 ^ e ≤ a / b < 2 ^ (e + 1)`, for `a` and `b` not zero. -/
def binaryExponent (a b : Nat) : Int :=
  let e : Int := (Nat.log2 a : Int) - (Nat.log2 b : Int)
  if a * 2 ^ (-e).toNat < b * 2 ^ e.toNat then e - 1 else e

/-- `a / b` as a whole number of units in the last place of the binade of exponent `e`. -/
def roundedSignificand (f : IeeeFormat) (e : Int) (a b : Nat) : Nat :=
  let k : Int := (f.precision : Int) - 1 - e
  divNearestEven (a * 2 ^ k.toNat) (b * 2 ^ (-k).toNat)

/-- The bits of the nearest value to `a / b`, sign bit clear. A significand that rounds up to a power of two carries into the
exponent field. -/
def roundMagnitude (f : IeeeFormat) (a b : Nat) : Nat :=
  if a = 0 then 0
  else
    let e := binaryExponent a b
    (e + (f.bias : Int)).toNat * 2 ^ (f.precision - 1)
      + (roundedSignificand f e a b - 2 ^ (f.precision - 1))

/-- The bits of the value nearest `q`, ties to even; zero is +0.0 (R78). -/
def roundNearestEven (f : IeeeFormat) (q : Rat) : Nat :=
  (if q.num < 0 then 2 ^ (f.width - 1) else 0) + roundMagnitude f q.num.natAbs q.den

/-- The sign of a value's bits, as a factor. -/
def ieeeSign (f : IeeeFormat) (bits : Nat) : Rat := if bits / 2 ^ (f.width - 1) % 2 = 1 then -1 else 1

/-- The biased exponent field of a value's bits. -/
def ieeeExponentField (f : IeeeFormat) (bits : Nat) : Nat :=
  bits / 2 ^ (f.precision - 1) % 2 ^ (f.width - f.precision)

/-- The fraction field of a value's bits. -/
def ieeeFraction (f : IeeeFormat) (bits : Nat) : Nat := bits % 2 ^ (f.precision - 1)

/-- Whether the bits are of a finite value: the exponent field is not all ones. -/
def ieeeFinite (f : IeeeFormat) (bits : Nat) : Bool :=
  ieeeExponentField f bits != 2 ^ (f.width - f.precision) - 1

/-- The value of finite bits: zero and subnormal numbers where the exponent field is 0, else normal ones. -/
def ieeeValue (f : IeeeFormat) (bits : Nat) : Rat :=
  let scale : Rat := 2 ^ (f.bias + f.precision - 1)
  if ieeeExponentField f bits = 0 then ieeeSign f bits * (2 * ieeeFraction f bits : Nat) / scale
  else ieeeSign f bits * ((2 ^ (f.precision - 1) + ieeeFraction f bits) * 2 ^ ieeeExponentField f bits : Nat) / scale

end Sys2Proof.Machine
end

