-- ==== Sys2Proof/Machine/Signals.lean ====
section
/-! DEFINITION. The output stage (spec/44_signals.md): the ports of spec/00_scope.md R8 as functions of the state. Reading them
writes nothing (R74). -/

namespace Sys2Proof.Machine

/-- GATE_V (R76). -/
def gateV (s : State) : Rat := if s.gate then Config.gateHigh else Config.gateLow

/-- The source's formula for the pitch voltage, in exact arithmetic (R75). -/
def pitchFormula (cur : Note) (pw : Data7) : Rat :=
  (((cur.toNat : Rat) - 64) + 2 * ((pw.toNat : Rat) - 64) / 64) / 12

/-- PITCH_NUM as a whole number, before it is presented in 16 bits (R77). -/
def pitchInt (cur : Note) (pw : Data7) : Int :=
  32 * ((cur.toNat : Int) - (Config.noteRef.toNat : Int)) + ((pw.toNat : Int) - (Config.wheelCenter.toNat : Int))

/-- PITCH_NUM, a 16-bit two's complement value (R77). -/
def pitchNum (s : State) : BitVec 16 := BitVec.ofInt 16 (pitchInt s.cur s.pw)

/-- The pitch voltage PITCH_NUM / 384 as a rational number (R77, R78). -/
def pitchExact (s : State) : Rat := ((pitchNum s).toInt : Rat) / 384

/-- A pitch voltage as `PITCH_FORMAT` renders it (R78). -/
inductive PitchValue where
  | exact (q : Rat)
  | binary64 (bits : BitVec 64)
  | binary32 (bits : BitVec 32)
  deriving DecidableEq, Repr

/-- The rendering of a pitch voltage in a format (R78). -/
def renderPitch (q : Rat) : Config.PitchFormat → PitchValue
  | .exact => .exact q
  | .binary64 => .binary64 (BitVec.ofNat 64 (roundNearestEven binary64 q))
  | .binary32 => .binary32 (BitVec.ofNat 32 (roundNearestEven binary32 q))

/-- PITCH_V (R78). -/
def pitchV (fmt : Config.PitchFormat) (s : State) : PitchValue := renderPitch (pitchExact s) fmt

/-- The output ports of the block (00_scope.md R8). -/
structure Outputs where
  gate : Bool
  gateV : Rat
  pitchNum : BitVec 16
  pitchV : PitchValue
  fault : Bool
  faultWord : Msg
  deriving DecidableEq, Repr

/-- COMPUTE_SIGNALS: a reading of the outputs, in the given `PITCH_FORMAT` (R74; log entry 11). -/
def computeSignals (fmt : Config.PitchFormat) (s : State) : Outputs where
  gate := s.gate
  gateV := gateV s
  pitchNum := pitchNum s
  pitchV := pitchV fmt s
  fault := s.fault
  faultWord := s.faultWord

end Sys2Proof.Machine
end

