-- ==== Sys2Proof/Machine/HostSide.lean ====
section
/-! DEFINITION. The host's side of the ports: the interface (spec/00_scope.md R8, spec/92_eei_decisions.md D3), boot
(spec/70_reset_and_hazards.md R99), the per-tick protocol (spec/20_memory.md R37), port changes (spec/10_state.md R28), and
the messages that stand for the source's public operations (spec/43_dispatch.md R72). -/

namespace Sys2Proof.Machine

/-- A host event: one message strobe with this word. -/
def messageEvent (w : Msg) : HostEvent := .transaction (.message w)

/-- A host event: one `RST` strobe. -/
def resetEvent : HostEvent := .transaction .reset

/-- An integer offered as a message: wider than the port, it is refused, not masked (92 D3, U1). -/
def offerWord (w : Nat) : Except Refusal HostEvent :=
  if w < 2 ^ Config.msgWidth then .ok (messageEvent (BitVec.ofNat 24 w)) else .error .notOneMessage

/-- Bytes offered as a message: exactly three, status byte first (R32, R41, U1). -/
def offerBytes : List Byte → Except Refusal HostEvent
  | [byte0, data1, data2] => .ok (messageEvent (data2 ++ data1 ++ byte0))
  | _ => .error .notOneMessage

/-- The machine as the environment starts it: `LISTEN_CH` set, the block constructed, then the host's events delivered
(R99, R97). -/
def State.boot (c : Nibble) (events : List HostEvent) : State :=
  { State.reset with listenCh := c, pending := events }

/-- The host delivers more events, after the ones it delivered before (R33). -/
def deliver (events : List HostEvent) (s : State) : State := s.writePending (s.pending ++ events)

/-- Take and run every event that is waiting. -/
def drain (s : State) : Host.Outcome State Fault Refusal := Sys2Proof.core.run s.pending.length s

/-- One control-rate tick: the pending messages in arrival order, then one reading of the outputs (R37). -/
def tick (fmt : Config.PitchFormat) (msgs : List Msg) (s : State) : Except Refusal (State × Outputs) :=
  match drain (deliver (msgs.map messageEvent) s) with
  | .next t => .ok (t, computeSignals fmt t)
  | .refused r => .error r

/-- Several control-rate ticks, one batch of pending messages each, with the reading that ends each tick (R37, R38). -/
def ticks (fmt : Config.PitchFormat) : List (List Msg) → State → Except Refusal (State × List Outputs)
  | [], s => .ok (s, [])
  | batch :: later, s =>
    match tick fmt batch s with
    | .error r => .error r
    | .ok (t, o) =>
      match ticks fmt later t with
      | .error r => .error r
      | .ok (u, readings) => .ok (u, o :: readings)

/-- What reaches the block when the host changes the MIDI port: nothing, or an `RST` where the host parameter
`RESET_ON_PORT_CHANGE` is true (R28, R98, 92 D11; log entry 15). -/
def portChangeEvents (resetOnPortChange : Bool) : List HostEvent :=
  if resetOnPortChange then [resetEvent] else []

/-- The source's public operations (R72). Their arguments are the source's integers. -/
inductive SourceOp where
  | pressNote (n : Int)
  | releaseNote (n : Int)
  /-- releaseNote with the "release nothing" sentinel -/
  | releaseNothing
  | setPedal (held : Bool)
  | setPitchWheel (m : Int)
  | processMessage (channel status data1 data2 : Int)
  deriving DecidableEq, Repr

/-- An argument in a field of `k` bits; one that does not fit is refused at the interface (R72). -/
def fieldArg (k : Nat) (x : Int) : Except Refusal (BitVec k) :=
  if 0 ≤ x ∧ x < 2 ^ k then .ok (BitVec.ofInt k x) else .error .argumentOutOfRange

/-- The message with the same effect on the state as a source operation, for a block listening on `c` whose pedal is as
given; none where none is needed (R72). Where R72 says that any value of a byte will do, `any` is that value, and it must be
one R72 admits: 1..127 for a press, below 64 for a release of nothing, 0..127 elsewhere; for the pedal the two values are
127 and 0 (30_encoding.md section 5). -/
def SourceOp.message (c : Nibble) (pedal : Bool) (any : Data7) : SourceOp → Except Refusal (Option Msg)
  | .pressNote n => do
    let d1 ← fieldArg 8 n
    return some (packMsg (byteOf any) d1 0x9 c)
  | .releaseNote n => do
    let d1 ← fieldArg 8 n
    return some (packMsg (byteOf any) d1 0x8 c)
  | .releaseNothing => .ok (if pedal then none else some (packMsg (byteOf any) 0x40 0xB c))
  | .setPedal held => .ok (some (packMsg (if held then 127 else 0) 0x40 0xB c))
  | .setPitchWheel m => do
    let d2 ← fieldArg 8 m
    return some (packMsg d2 (byteOf any) 0xE c)
  | .processMessage channel status data1 data2 => do
    let ch ← fieldArg 4 channel
    let st ← fieldArg 4 status
    let d1 ← fieldArg 8 data1
    let d2 ← fieldArg 8 data2
    return some (packMsg d2 d1 st ch)

/-- A line of the spec's own textual form (30_encoding.md section 5). `ch` may be left out, and then means `LISTEN_CH`. -/
inductive Line where
  | noteOff (ch : Option Nibble) (n v : Byte)
  | noteOn (ch : Option Nibble) (n v : Byte)
  | cc (ch : Option Nibble) (k v : Byte)
  | pedal (v : Byte)
  | pedalOn
  | pedalOff
  | bend (ch : Option Nibble) (l m : Byte)
  | raw (w : Msg)
  | reset
  | sample
  deriving DecidableEq, Repr

/-- The host event of a line (30_encoding.md section 5): `RESET` is an `RST` transaction, `SAMPLE` a reading of the outputs,
every other line a message. -/
def Line.event (listen : Nibble) : Line → HostEvent
  | .noteOff ch n v => messageEvent (packMsg v n 0x8 (ch.getD listen))
  | .noteOn ch n v => messageEvent (packMsg v n 0x9 (ch.getD listen))
  | .cc ch k v => messageEvent (packMsg v k 0xB (ch.getD listen))
  | .pedal v => messageEvent (packMsg v 64 0xB listen)
  | .pedalOn => messageEvent (packMsg 127 64 0xB listen)
  | .pedalOff => messageEvent (packMsg 0 64 0xB listen)
  | .bend ch l m => messageEvent (packMsg m l 0xE (ch.getD listen))
  | .raw w => messageEvent w
  | .reset => resetEvent
  | .sample => .readSignals

end Sys2Proof.Machine
end

