-- ==== Sys2Proof/Safety.lean ====
section
/-! DEFINITION. What claims about the block are stated in: the invariants of spec/10_state.md section 5, fault-free states, the
reachable states, PROCESS_MESSAGE as spec/43_dispatch.md R61 writes it, the class table and the word patterns of
spec/30_encoding.md R45 and R46, the note stack as the array of spec/41_note_stack.md R51, and the source's pitch formula in
floating point. The machine itself uses none of these. -/

namespace Sys2Proof.Machine

/-- INV-DISTINCT: no note is on the stack twice (R22). -/
abbrev InvDistinct (s : State) : Prop := s.stack.Nodup

/-- INV-GATE-STACK: LEN > 0 implies GATE = 1 (R23). -/
abbrev InvGateStack (s : State) : Prop := 0 < s.len → s.gate = true

/-- INV-IDLE: PEDAL = 0 and LEN = 0 imply GATE = 0 (R24). -/
abbrev InvIdle (s : State) : Prop := s.pedal = false → s.len = 0 → s.gate = false

/-- INV-TOP: PEDAL = 0 and LEN > 0 imply CUR = StkTop() (R25). -/
abbrev InvTop (s : State) : Prop := s.pedal = false → 0 < s.len → s.stack.getLast? = some s.cur

/-- FAULT_WORD is 0 while there has been no fault (R84). -/
abbrev InvFaultWord (s : State) : Prop := s.fault = false → s.faultWord = 0

/-- The invariant of the block (R22 to R25, R84). -/
abbrev Inv (s : State) : Prop :=
  InvDistinct s ∧ InvGateStack s ∧ InvIdle s ∧ InvTop s ∧ InvFaultWord s

/-- A run has stayed fault-free so far: FAULT is sticky, so its last state says so (R84). -/
abbrev FaultFree (s : State) : Prop := s.fault = false

/-- `s` is reached from a boot on some listening channel by some number of steps over some host events (R97, R99). -/
def Reachable (s : State) : Prop :=
  ∃ (c : Nibble) (events : List HostEvent) (k : Nat), Sys2Proof.core.run k (State.boot c events) = .next s

/-- Two states that differ at most in FAULT and FAULT_WORD. -/
abbrev AgreeButFault (s t : State) : Prop :=
  s.cur = t.cur ∧ s.gate = t.gate ∧ s.pedal = t.pedal ∧ s.pw = t.pw ∧ s.stack = t.stack
    ∧ s.listenCh = t.listenCh ∧ s.pending = t.pending

/-- The channel field of a word: `w[3:0]` (R42). -/
def channelOf (w : Msg) : Nat := w.toNat % 16

/-- The status nibble of a word: `w[7:4]` (R42). -/
def statusOf (w : Msg) : Nat := w.toNat / 16 % 16

/-- data1 of a word: `w[15:8]` (R43). -/
def data1Of (w : Msg) : Nat := w.toNat / 256 % 256

/-- data2 of a word: `w[23:16]` (R43). -/
def data2Of (w : Msg) : Nat := w.toNat / 65536 % 256

/-- A message INVALID_DATA is about, whatever its channel: a range-checked status and a data byte above 127 (R63). -/
abbrev BadData (w : Msg) : Prop :=
  (statusOf w = 0x8 ∨ statusOf w = 0x9 ∨ statusOf w = 0xB ∨ statusOf w = 0xE)
    ∧ (127 < data1Of w ∨ 127 < data2Of w)

/-- PROCESS_MESSAGE(w), stage by stage as R61 writes it. -/
def processMessage (w : Msg) (s : State) : State :=
  let n : Note := BitVec.ofNat 7 (data1Of w)
  let v : Data7 := BitVec.ofNat 7 (data2Of w)
  if channelOf w ≠ s.listenCh.toNat then s
  else if BadData w then raiseInvalidArgument w s
  else if statusOf w = 0x8 then release n s
  else if statusOf w = 0x9 then (if v.toNat ≠ 0 then press n s else release n s)
  else if statusOf w = 0xB then
    (if n.toNat = 0x40 then releaseNone (setPedal (decide (64 ≤ v.toNat)) s) else s)
  else if statusOf w = 0xE then setPitchWheel v s
  else s

/-- The state after RELEASE(n), case by case: the first occurrence of `n` leaves the stack (R53), and then, in strict priority
order, the pedal holds the voice, or the last element sounds, or the gate closes (R54). -/
def afterRelease (n : Note) (s : State) : State :=
  if s.pedal = true then { s with stack := s.stack.erase n }
  else match (s.stack.erase n).getLast? with
    | some top => { s with stack := s.stack.erase n, cur := top }
    | none => { s with stack := s.stack.erase n, gate := false }

/-- The message classes (R45). -/
inductive MsgClass where
  | discard
  | invalidData
  | noteOff
  | noteOnV0
  | noteOn
  | ccSustain
  | ccOther
  | pitchWheel
  | ignored
  deriving DecidableEq, Repr

/-- The class of a word: the first row of the table of R45 that matches. -/
def classOfWord (c : Nibble) (w : Msg) : MsgClass :=
  if channelOf w ≠ c.toNat then .discard
  else if BadData w then .invalidData
  else if statusOf w = 0x8 then .noteOff
  else if statusOf w = 0x9 ∧ data2Of w = 0 then .noteOnV0
  else if statusOf w = 0x9 ∧ data2Of w ≠ 0 then .noteOn
  else if statusOf w = 0xB ∧ data1Of w = 0x40 then .ccSustain
  else if statusOf w = 0xB ∧ data1Of w ≠ 0x40 then .ccOther
  else if statusOf w = 0xE then .pitchWheel
  else .ignored

/-- The class an instruction belongs to: the "class" of its row of spec/opcode_table.json. -/
def classOf : Instr → MsgClass
  | .discardCh0 _ _ _ => .discard
  | .discardCh1 _ _ _ => .discard
  | .discardCh2 _ _ _ => .discard
  | .discardCh3 _ _ _ => .discard
  | .discardCh4 _ _ _ => .discard
  | .discardCh5 _ _ _ => .discard
  | .discardCh6 _ _ _ => .discard
  | .discardCh7 _ _ _ => .discard
  | .discardCh8 _ _ _ => .discard
  | .discardCh9 _ _ _ => .discard
  | .discardCh10 _ _ _ => .discard
  | .discardCh11 _ _ _ => .discard
  | .discardCh12 _ _ _ => .discard
  | .discardCh13 _ _ _ => .discard
  | .discardCh14 _ _ _ => .discard
  | .discardCh15 _ _ _ => .discard
  | .invalidStatus8Data1 _ _ => .invalidData
  | .invalidStatus8Data2 _ _ => .invalidData
  | .invalidStatus9Data1 _ _ => .invalidData
  | .invalidStatus9Data2 _ _ => .invalidData
  | .invalidStatusBData1 _ _ => .invalidData
  | .invalidStatusBData2 _ _ => .invalidData
  | .invalidStatusEData1 _ _ => .invalidData
  | .invalidStatusEData2 _ _ => .invalidData
  | .noteOff _ _ => .noteOff
  | .noteOnV0 _ => .noteOnV0
  | .noteOn _ _ => .noteOn
  | .ccSustain _ => .ccSustain
  | .ccOther _ _ => .ccOther
  | .pitchWheel _ _ => .pitchWheel
  | .ignoredStatus0 _ _ => .ignored
  | .ignoredStatus1 _ _ => .ignored
  | .ignoredStatus2 _ _ => .ignored
  | .ignoredStatus3 _ _ => .ignored
  | .ignoredStatus4 _ _ => .ignored
  | .ignoredStatus5 _ _ => .ignored
  | .ignoredStatus6 _ _ => .ignored
  | .ignoredStatus7 _ _ => .ignored
  | .ignoredStatusA _ _ => .ignored
  | .ignoredStatusC _ _ => .ignored
  | .ignoredStatusD _ _ => .ignored
  | .ignoredStatusF _ _ => .ignored

/-- The mnemonic of an instruction's row; DISCARD_ch_0 is in no table printed for `LISTEN_CH` = 0 (R46). -/
def mnemonicOf : Instr → String
  | .discardCh0 _ _ _ => "DISCARD_ch_0"
  | .discardCh1 _ _ _ => "DISCARD_ch_1"
  | .discardCh2 _ _ _ => "DISCARD_ch_2"
  | .discardCh3 _ _ _ => "DISCARD_ch_3"
  | .discardCh4 _ _ _ => "DISCARD_ch_4"
  | .discardCh5 _ _ _ => "DISCARD_ch_5"
  | .discardCh6 _ _ _ => "DISCARD_ch_6"
  | .discardCh7 _ _ _ => "DISCARD_ch_7"
  | .discardCh8 _ _ _ => "DISCARD_ch_8"
  | .discardCh9 _ _ _ => "DISCARD_ch_9"
  | .discardCh10 _ _ _ => "DISCARD_ch_10"
  | .discardCh11 _ _ _ => "DISCARD_ch_11"
  | .discardCh12 _ _ _ => "DISCARD_ch_12"
  | .discardCh13 _ _ _ => "DISCARD_ch_13"
  | .discardCh14 _ _ _ => "DISCARD_ch_14"
  | .discardCh15 _ _ _ => "DISCARD_ch_15"
  | .invalidStatus8Data1 _ _ => "INVALID_DATA_status_0x8_data1"
  | .invalidStatus8Data2 _ _ => "INVALID_DATA_status_0x8_data2"
  | .invalidStatus9Data1 _ _ => "INVALID_DATA_status_0x9_data1"
  | .invalidStatus9Data2 _ _ => "INVALID_DATA_status_0x9_data2"
  | .invalidStatusBData1 _ _ => "INVALID_DATA_status_0xB_data1"
  | .invalidStatusBData2 _ _ => "INVALID_DATA_status_0xB_data2"
  | .invalidStatusEData1 _ _ => "INVALID_DATA_status_0xE_data1"
  | .invalidStatusEData2 _ _ => "INVALID_DATA_status_0xE_data2"
  | .noteOff _ _ => "NOTE_OFF"
  | .noteOnV0 _ => "NOTE_ON_V0"
  | .noteOn _ _ => "NOTE_ON"
  | .ccSustain _ => "CC_SUSTAIN"
  | .ccOther _ _ => "CC_OTHER"
  | .pitchWheel _ _ => "PITCH_WHEEL"
  | .ignoredStatus0 _ _ => "IGNORED_status_0x0"
  | .ignoredStatus1 _ _ => "IGNORED_status_0x1"
  | .ignoredStatus2 _ _ => "IGNORED_status_0x2"
  | .ignoredStatus3 _ _ => "IGNORED_status_0x3"
  | .ignoredStatus4 _ _ => "IGNORED_status_0x4"
  | .ignoredStatus5 _ _ => "IGNORED_status_0x5"
  | .ignoredStatus6 _ _ => "IGNORED_status_0x6"
  | .ignoredStatus7 _ _ => "IGNORED_status_0x7"
  | .ignoredStatusA _ _ => "IGNORED_status_0xA"
  | .ignoredStatusC _ _ => "IGNORED_status_0xC"
  | .ignoredStatusD _ _ => "IGNORED_status_0xD"
  | .ignoredStatusF _ _ => "IGNORED_status_0xF"

/-- A word pattern: a word has it where its bits under the mask are the match (R46). -/
structure Pattern where
  mnemonic : String
  bits : Msg
  mask : Msg
  deriving DecidableEq, Repr

/-- Whether a word has a pattern. -/
def Pattern.fits (p : Pattern) (w : Msg) : Bool := w &&& p.mask == p.bits

/-- The DISCARD pattern of a channel (R46). -/
def discardPattern (d : Nat) (name : String) : Pattern := ⟨name, BitVec.ofNat 24 d, 0x00000F⟩

/-- A pattern printed for `LISTEN_CH` = 0, with the low nibble of its match replaced by `LISTEN_CH` (R46). -/
def acceptedPattern (c : Nibble) (name : String) (bits mask : Msg) : Pattern :=
  ⟨name, bits ||| c.setWidth 24, mask⟩

/-- The DISCARD rows, for every channel but the listening one (R46). -/
def discardPatterns (c : Nibble) : List Pattern :=
  ([
    discardPattern 0 "DISCARD_ch_0", discardPattern 1 "DISCARD_ch_1",
    discardPattern 2 "DISCARD_ch_2", discardPattern 3 "DISCARD_ch_3",
    discardPattern 4 "DISCARD_ch_4", discardPattern 5 "DISCARD_ch_5",
    discardPattern 6 "DISCARD_ch_6", discardPattern 7 "DISCARD_ch_7",
    discardPattern 8 "DISCARD_ch_8", discardPattern 9 "DISCARD_ch_9",
    discardPattern 10 "DISCARD_ch_10", discardPattern 11 "DISCARD_ch_11",
    discardPattern 12 "DISCARD_ch_12", discardPattern 13 "DISCARD_ch_13",
    discardPattern 14 "DISCARD_ch_14", discardPattern 15 "DISCARD_ch_15"] : List Pattern).filter
    (fun p => p.bits != c.setWidth 24)

/-- The INVALID_DATA rows, in the table's order (R46). -/
def invalidPatterns (c : Nibble) : List Pattern := [
  acceptedPattern c "INVALID_DATA_status_0x8_data1" 0x008080 0x0080FF,
  acceptedPattern c "INVALID_DATA_status_0x8_data2" 0x800080 0x8000FF,
  acceptedPattern c "INVALID_DATA_status_0x9_data1" 0x008090 0x0080FF,
  acceptedPattern c "INVALID_DATA_status_0x9_data2" 0x800090 0x8000FF,
  acceptedPattern c "INVALID_DATA_status_0xB_data1" 0x0080B0 0x0080FF,
  acceptedPattern c "INVALID_DATA_status_0xB_data2" 0x8000B0 0x8000FF,
  acceptedPattern c "INVALID_DATA_status_0xE_data1" 0x0080E0 0x0080FF,
  acceptedPattern c "INVALID_DATA_status_0xE_data2" 0x8000E0 0x8000FF]

/-- The rows with an effect of their own, and CC_OTHER, in the table's order: NOTE_ON_V0 before NOTE_ON and
CC_SUSTAIN before CC_OTHER (R46). -/
def functionalPatterns (c : Nibble) : List Pattern := [
  acceptedPattern c "NOTE_OFF" 0x000080 0x8080FF,
  acceptedPattern c "NOTE_ON_V0" 0x000090 0xFF80FF,
  acceptedPattern c "NOTE_ON" 0x000090 0x8080FF,
  acceptedPattern c "CC_SUSTAIN" 0x0040B0 0x80FFFF,
  acceptedPattern c "CC_OTHER" 0x0000B0 0x8080FF,
  acceptedPattern c "PITCH_WHEEL" 0x0000E0 0x8080FF]

/-- The IGNORED rows, in the table's order (R46). -/
def ignoredPatterns (c : Nibble) : List Pattern := [
  acceptedPattern c "IGNORED_status_0x0" 0x000000 0x0000FF,
  acceptedPattern c "IGNORED_status_0x1" 0x000010 0x0000FF,
  acceptedPattern c "IGNORED_status_0x2" 0x000020 0x0000FF,
  acceptedPattern c "IGNORED_status_0x3" 0x000030 0x0000FF,
  acceptedPattern c "IGNORED_status_0x4" 0x000040 0x0000FF,
  acceptedPattern c "IGNORED_status_0x5" 0x000050 0x0000FF,
  acceptedPattern c "IGNORED_status_0x6" 0x000060 0x0000FF,
  acceptedPattern c "IGNORED_status_0x7" 0x000070 0x0000FF,
  acceptedPattern c "IGNORED_status_0xA" 0x0000A0 0x0000FF,
  acceptedPattern c "IGNORED_status_0xC" 0x0000C0 0x0000FF,
  acceptedPattern c "IGNORED_status_0xD" 0x0000D0 0x0000FF,
  acceptedPattern c "IGNORED_status_0xF" 0x0000F0 0x0000FF]

/-- The opcode table of a block listening on channel `c`, in order of priority (R46, spec/opcode_table.json). -/
def opcodeTable (c : Nibble) : List Pattern :=
  discardPatterns c ++ invalidPatterns c ++ functionalPatterns c ++ ignoredPatterns c

/-- The word of an INVALID_DATA instruction on a block listening on channel `c` (R46, R63); none for any other. -/
def faultingWord (c : Nibble) : Instr → Option Msg
  | .discardCh0 _ _ _ => none
  | .discardCh1 _ _ _ => none
  | .discardCh2 _ _ _ => none
  | .discardCh3 _ _ _ => none
  | .discardCh4 _ _ _ => none
  | .discardCh5 _ _ _ => none
  | .discardCh6 _ _ _ => none
  | .discardCh7 _ _ _ => none
  | .discardCh8 _ _ _ => none
  | .discardCh9 _ _ _ => none
  | .discardCh10 _ _ _ => none
  | .discardCh11 _ _ _ => none
  | .discardCh12 _ _ _ => none
  | .discardCh13 _ _ _ => none
  | .discardCh14 _ _ _ => none
  | .discardCh15 _ _ _ => none
  | .invalidStatus8Data1 low1 d2 => some (d2 ++ (1#1 ++ low1) ++ 0x8#4 ++ c)
  | .invalidStatus8Data2 d1 low2 => some ((1#1 ++ low2) ++ (0#1 ++ d1) ++ 0x8#4 ++ c)
  | .invalidStatus9Data1 low1 d2 => some (d2 ++ (1#1 ++ low1) ++ 0x9#4 ++ c)
  | .invalidStatus9Data2 d1 low2 => some ((1#1 ++ low2) ++ (0#1 ++ d1) ++ 0x9#4 ++ c)
  | .invalidStatusBData1 low1 d2 => some (d2 ++ (1#1 ++ low1) ++ 0xB#4 ++ c)
  | .invalidStatusBData2 d1 low2 => some ((1#1 ++ low2) ++ (0#1 ++ d1) ++ 0xB#4 ++ c)
  | .invalidStatusEData1 low1 d2 => some (d2 ++ (1#1 ++ low1) ++ 0xE#4 ++ c)
  | .invalidStatusEData2 d1 low2 => some ((1#1 ++ low2) ++ (0#1 ++ d1) ++ 0xE#4 ++ c)
  | .noteOff _ _ => none
  | .noteOnV0 _ => none
  | .noteOn _ _ => none
  | .ccSustain _ => none
  | .ccOther _ _ => none
  | .pitchWheel _ _ => none
  | .ignoredStatus0 _ _ => none
  | .ignoredStatus1 _ _ => none
  | .ignoredStatus2 _ _ => none
  | .ignoredStatus3 _ _ => none
  | .ignoredStatus4 _ _ => none
  | .ignoredStatus5 _ _ => none
  | .ignoredStatus6 _ _ => none
  | .ignoredStatus7 _ _ => none
  | .ignoredStatusA _ _ => none
  | .ignoredStatusC _ _ => none
  | .ignoredStatusD _ _ => none
  | .ignoredStatusF _ _ => none

/-- The note stack as the hardware's array, R51: 128 entries and a length. Entries at or above the length are don't-care
(R18). -/
structure ArrayStack where
  stk : Vector Note 128
  len : Nat
  deriving DecidableEq, Repr

/-- `STK[i]`. -/
def ArrayStack.entry (a : ArrayStack) (i : Nat) : Note := a.stk[i]?.getD 0

/-- The live entries, index 0 first (R16). -/
def ArrayStack.live (a : ArrayStack) : List Note := a.stk.toList.take a.len

/-- StkFind on the array: the least `i < LEN` with `STK[i] == n` (R51). -/
def ArrayStack.find (a : ArrayStack) (n : Note) : Option Nat := (List.range a.len).find? (fun i => a.entry i == n)

/-- StkRemoveAt on the array: `for j from i to LEN-2: STK[j] <- STK[j+1]`, then `LEN <- LEN - 1` (R51). -/
def ArrayStack.removeAt (a : ArrayStack) (i : Nat) : ArrayStack where
  stk := (List.range' i (a.len - 1 - i)).foldl (fun stk j => stk.setIfInBounds j (stk[j + 1]?.getD 0)) a.stk
  len := a.len - 1

/-- StkAppend on the array: `STK[LEN] <- n`, then `LEN <- LEN + 1` (R51). -/
def ArrayStack.append (a : ArrayStack) (n : Note) : ArrayStack where
  stk := a.stk.setIfInBounds a.len n
  len := a.len + 1

/-- StkTop on the array, for LEN > 0 (R51). -/
def ArrayStack.top (a : ArrayStack) : Note := a.entry (a.len - 1)

/-- The removal step of PRESS and RELEASE on the array (R52, R53). -/
def ArrayStack.remove (a : ArrayStack) (n : Note) : ArrayStack :=
  match a.find n with
  | some i => a.removeAt i
  | none => a

/-- The source's formula evaluated in an IEEE format in the order written, each operation rounded (R75, R78). -/
def pitchFormulaRounded (f : IeeeFormat) (cur : Note) (pw : Data7) : Nat :=
  let r := fun q => ieeeValue f (roundNearestEven f q)
  let semitones := r ((cur.toNat : Rat) - 64)
  let bend := r (r (2 * r ((pw.toNat : Rat) - 64)) / 64)
  roundNearestEven f (r (semitones + bend) / 12)

end Sys2Proof.Machine
end

