-- ==== Sys2Proof/Certificates/Slice0/Obligations.lean ====
section
/-! DEFINITION. The statements for the provers, from the numbered rules of spec/. They are stated in the terms of
Sys2Proof/Safety.lean and of the machine itself. The transactions of the rules stand in State.pending, the model's own list of
the host's events in delivery order (log entry 1): "delivering w" is `s.pending = messageEvent w :: rest`, and the step takes
that event and leaves `rest`. -/

open Sys2Proof Sys2Proof.Machine

/-! ### What a step does -/

/-- A message strobe runs the instruction its word decodes to, on the state with that strobe taken (R49, R61, R33). -/
def Obligations.StepRunsDecodedInstruction : Prop :=
  ∀ (s : State) (w : Msg) (rest : List HostEvent), s.pending = messageEvent w :: rest →
    step s = exec (decode s.listenCh w) { s with pending := rest }

/-- R61: "PROCESS_MESSAGE(w) is the whole effect of one `MSG_STB` transaction with word `w`". The transaction is the first event of the
model's list (log entry 1). -/
def Obligations.StepIsProcessMessage : Prop :=
  ∀ (s : State) (w : Msg) (rest : List HostEvent), s.pending = messageEvent w :: rest →
    step s = .next (processMessage w { s with pending := rest })

/-- R96: an RST transaction gives every register its construction value and leaves LISTEN_CH; the outputs after it are zero;
a second reset changes nothing. The transaction is the first event of the model's list (log entry 1). -/
def Obligations.ResetTransactionRestoresConstruction : Prop :=
  ∀ (s : State) (rest : List HostEvent),
    (s.pending = resetEvent :: rest →
      step s = .next
        { cur := 64, gate := false, pedal := false, pw := 64, stack := [], fault := false, faultWord := 0,
          listenCh := s.listenCh, pending := rest })
    ∧ applyReset (applyReset s) = applyReset s
    ∧ computeSignals .exact (applyReset s) = ⟨false, 0, 0, .exact 0, false, 0⟩
    ∧ computeSignals .binary64 (applyReset s) = ⟨false, 0, 0, .binary64 0, false, 0⟩
    ∧ computeSignals .binary32 (applyReset s) = ⟨false, 0, 0, .binary32 0, false, 0⟩

/-- R95: "Between transactions it holds its state and does nothing." That an empty list of waiting events is this case is the
model's own (log entries 1 and 2). -/
def Obligations.IdleBlockHoldsState : Prop :=
  ∀ s : State, s.pending = [] → step s = .next s

/-- R74: a reading of the outputs reads state and writes nothing, so reading twice gives the same values. -/
def Obligations.ReadingOutputsWritesNothing : Prop :=
  ∀ (s : State) (rest : List HostEvent) (fmt : Config.PitchFormat), s.pending = .readSignals :: rest →
    ∃ t, step s = .next t ∧ t = { s with pending := rest } ∧ computeSignals fmt t = computeSignals fmt s

/-- R40 and 92 D9: two transactions at once, and a change of LISTEN_CH during a run, are refused by name; holding LISTEN_CH
constant changes nothing. That these are events of the host is the model's own (log entries 4 and 7). -/
def Obligations.ForbiddenHostEventsAreRefused : Prop :=
  ∀ (s : State) (rest : List HostEvent),
    (∀ t₁ t₂, s.pending = .overlapping t₁ t₂ :: rest → step s = .refused .overlappingTransactions)
    ∧ (∀ c, s.pending = .driveListenCh c :: rest → c ≠ s.listenCh → step s = .refused .listenChannelChanged)
    ∧ (s.pending = .driveListenCh s.listenCh :: rest → step s = .next { s with pending := rest })

/-- R83: "every operation is a synchronous, total state transition". A run over any transactions and readings completes, one
step for each. -/
def Obligations.EveryLegalRunCompletes : Prop :=
  ∀ s : State, (∀ e ∈ s.pending, (∃ t, e = .transaction t) ∨ e = .readSignals) →
    ∃ t, drain s = .next t ∧ t.pending = []

/-! ### The message classes: what each word is, and what it does -/

/-- R62: a message whose channel is not LISTEN_CH is a DISCARD, whatever its other bits are, and has no effect: every discard
constructor, discardCh0 to discardCh15, for a state that listens on another channel. -/
def Obligations.DiscardHasNoEffect : Prop :=
  (∀ (c : Nibble) (w : Msg), channelOf w ≠ c.toNat → classOf (decode c w) = .discard)
  ∧ ∀ (i : Instr) (s : State), classOf i = .discard → WellFormed s.listenCh i = true → exec i s = .next s

/-- R63 and R82: an accepted message of status 8, 9, B or E with a data byte above 127 raises InvalidArgument with its own
word: FAULT is set, FAULT_WORD keeps the first word, and nothing else changes: every constructor
invalidStatus8Data1 to invalidStatusEData2. -/
def Obligations.InvalidDataRaisesInvalidArgument : Prop :=
  (∀ (c : Nibble) (w : Msg), channelOf w = c.toNat → BadData w → faultingWord c (decode c w) = some w)
  ∧ ∀ (i : Instr) (w : Msg) (s : State), faultingWord s.listenCh i = some w →
    exec i s = .next { s with fault := true, faultWord := if s.fault then s.faultWord else w }

/-- R64: an accepted word of status 8 with its data in range is NOTE_OFF of data1, and releases that note: it leaves the stack,
and last-note priority decides (R53, R54). -/
def Obligations.NoteOffReleasesNote : Prop :=
  (∀ (c : Nibble) (w : Msg), channelOf w = c.toNat → statusOf w = 0x8 → data1Of w ≤ 127 → data2Of w ≤ 127 →
    decode c w = .noteOff (BitVec.ofNat 7 (data1Of w)) (BitVec.ofNat 7 (data2Of w)))
  ∧ ∀ (n : Note) (v : Data7) (s : State), exec (.noteOff n v) s = .next (afterRelease n s)

/-- R65: an accepted word of status 9 with its data in range and data2 not zero is NOTE_ON of data1, and presses that note: it
becomes the top of the stack and the current note, and the gate opens (R52). -/
def Obligations.NoteOnPressesNote : Prop :=
  (∀ (c : Nibble) (w : Msg), channelOf w = c.toNat → statusOf w = 0x9 → data1Of w ≤ 127 → data2Of w ≤ 127 →
    data2Of w ≠ 0 → decode c w = .noteOn (BitVec.ofNat 7 (data1Of w)) (BitVec.ofNat 7 (data2Of w)))
  ∧ ∀ (n : Note) (v : Data7) (s : State), v ≠ 0 →
    exec (.noteOn n v) s = .next { s with stack := s.stack.erase n ++ [n], gate := true, cur := n }

/-- R66: an accepted word of status 9 with data1 in range and data2 zero is NOTE_ON_V0 of data1, and releases that note. -/
def Obligations.NoteOnVelocityZeroReleasesNote : Prop :=
  (∀ (c : Nibble) (w : Msg), channelOf w = c.toNat → statusOf w = 0x9 → data1Of w ≤ 127 → data2Of w = 0 →
    decode c w = .noteOnV0 (BitVec.ofNat 7 (data1Of w)))
  ∧ ∀ (n : Note) (s : State), exec (.noteOnV0 n) s = .next (afterRelease n s)

/-- R67: an accepted word of status B with data1 = 0x40 and data2 in range is CC_SUSTAIN. From 64 up it holds the pedal and does
nothing else; below 64 it lifts the pedal and last-note priority decides, whatever the pedal was before. -/
def Obligations.SustainSetsPedalAndReevaluates : Prop :=
  (∀ (c : Nibble) (w : Msg), channelOf w = c.toNat → statusOf w = 0xB → data1Of w = 0x40 → data2Of w ≤ 127 →
    decode c w = .ccSustain (BitVec.ofNat 7 (data2Of w)))
  ∧ ∀ (v : Data7) (s : State), exec (.ccSustain v) s = .next
      (if 64 ≤ v.toNat then { s with pedal := true }
       else match s.stack.getLast? with
         | some top => { s with pedal := false, cur := top }
         | none => { s with pedal := false, gate := false })

/-- R68: an accepted word of status B with its data in range and data1 other than 0x40 is CC_OTHER, and has no effect. -/
def Obligations.OtherControllersHaveNoEffect : Prop :=
  (∀ (c : Nibble) (w : Msg), channelOf w = c.toNat → statusOf w = 0xB → data1Of w ≤ 127 → data2Of w ≤ 127 →
    data1Of w ≠ 0x40 → decode c w = .ccOther (BitVec.ofNat 7 (data1Of w)) (BitVec.ofNat 7 (data2Of w)))
  ∧ ∀ (k v : Data7) (s : State), k ≠ 0x40 → exec (.ccOther k v) s = .next s

/-- R69 and R60: an accepted word of status E with its data in range is PITCH_WHEEL, and stores data2 in PW and nothing else. -/
def Obligations.PitchWheelStoresCoarseByte : Prop :=
  (∀ (c : Nibble) (w : Msg), channelOf w = c.toNat → statusOf w = 0xE → data1Of w ≤ 127 → data2Of w ≤ 127 →
    decode c w = .pitchWheel (BitVec.ofNat 7 (data1Of w)) (BitVec.ofNat 7 (data2Of w)))
  ∧ ∀ (l m : Data7) (s : State), exec (.pitchWheel l m) s = .next { s with pw := m }

/-- R70: an accepted word of any other status is IGNORED, whatever its data bytes are, and has no effect: every
constructor ignoredStatus0 to ignoredStatusF. -/
def Obligations.IgnoredHasNoEffect : Prop :=
  (∀ (c : Nibble) (w : Msg), channelOf w = c.toNat →
    statusOf w ≤ 0x7 ∨ statusOf w = 0xA ∨ statusOf w = 0xC ∨ statusOf w = 0xD ∨ statusOf w = 0xF →
    classOf (decode c w) = .ignored)
  ∧ ∀ (i : Instr) (s : State), classOf i = .ignored → exec i s = .next s

/-! ### Frames and writers -/

/-- The frame of every instruction, by class: the stack is written by the note messages alone, CUR and GATE by those and by
CC_SUSTAIN, PEDAL by CC_SUSTAIN, PW by PITCH_WHEEL, FAULT and FAULT_WORD by INVALID_DATA, and LISTEN_CH and the waiting events
by none (R10, "written by"). -/
def Obligations.InstructionFrames : Prop :=
  ∀ (i : Instr) (s t : State), exec i s = .next t →
    (classOf i ≠ .noteOff → classOf i ≠ .noteOn → classOf i ≠ .noteOnV0 → t.stack = s.stack)
    ∧ (classOf i ≠ .noteOff → classOf i ≠ .noteOn → classOf i ≠ .noteOnV0 → classOf i ≠ .ccSustain →
        t.cur = s.cur ∧ t.gate = s.gate)
    ∧ (classOf i ≠ .ccSustain → t.pedal = s.pedal)
    ∧ (classOf i ≠ .pitchWheel → t.pw = s.pw)
    ∧ (classOf i ≠ .invalidData → t.fault = s.fault ∧ t.faultWord = s.faultWord)
    ∧ t.listenCh = s.listenCh ∧ t.pending = s.pending

/-- The same over steps and words: a register that changes tells what was delivered. GATE rises through a NOTE_ON alone. -/
def Obligations.RegistersChangeOnlyByTheirTransactions : Prop :=
  ∀ (s t : State), step s = .next t → (∀ rest, s.pending ≠ resetEvent :: rest) →
    (t.stack ≠ s.stack → ∃ w rest, s.pending = messageEvent w :: rest
      ∧ classOfWord s.listenCh w ∈ [MsgClass.noteOff, .noteOn, .noteOnV0])
    ∧ (t.cur ≠ s.cur ∨ t.gate ≠ s.gate → ∃ w rest, s.pending = messageEvent w :: rest
      ∧ classOfWord s.listenCh w ∈ [MsgClass.noteOff, .noteOn, .noteOnV0, .ccSustain])
    ∧ (s.gate = false → t.gate = true → ∃ w rest, s.pending = messageEvent w :: rest
      ∧ classOfWord s.listenCh w = .noteOn)
    ∧ (t.pedal ≠ s.pedal → ∃ w rest, s.pending = messageEvent w :: rest
      ∧ classOfWord s.listenCh w = .ccSustain)
    ∧ (t.pw ≠ s.pw → ∃ w rest, s.pending = messageEvent w :: rest
      ∧ classOfWord s.listenCh w = .pitchWheel)
    ∧ (t.fault ≠ s.fault ∨ t.faultWord ≠ s.faultWord → ∃ w rest, s.pending = messageEvent w :: rest
      ∧ classOfWord s.listenCh w = .invalidData)

/-- R20: no transaction writes LISTEN_CH, reset included. -/
def Obligations.ListenChannelIsConstant : Prop :=
  ∀ (s t : State), step s = .next t → t.listenCh = s.listenCh

/-! ### Encoding -/

/-- Decoding the encoding of a well-formed instruction gives it back, with every operand at every value. -/
def Obligations.DecodeOfEncode : Prop :=
  ∀ (c : Nibble) (i : Instr), WellFormed c i = true → decode c (encode c i) = i

/-- Every word is the encoding of the instruction it decodes to, which is well formed: no bit of a message is lost, and every
word has a meaning (R47, R49). -/
def Obligations.EncodeOfDecode : Prop :=
  ∀ (c : Nibble) (w : Msg), WellFormed c (decode c w) = true ∧ encode c (decode c w) = w

/-- Words of the spec's worked examples and vectors decode to what the spec says they are. -/
def Obligations.WorkedExampleWordsDecode : Prop :=
  decode 0 0x643C90 = .noteOn 60 100
  ∧ decode 0 0x004080 = .noteOff 64 0
  ∧ decode 0 0x003C90 = .noteOnV0 60
  ∧ decode 0 0x0040B0 = .ccSustain 0
  ∧ decode 0 0x7F01B0 = .ccOther 1 127
  ∧ decode 0 0x7F00E0 = .pitchWheel 0 127
  ∧ decode 0 0xFFFFC0 = .ignoredStatusC 0xFF 0xFF
  ∧ decode 0 0x00C890 = .invalidStatus9Data1 0x48 0
  ∧ decode 0 0x643C91 = .discardCh1 9 0x3C 0x64
  ∧ decode 5 0x643C90 = .discardCh0 9 0x3C 0x64
  ∧ decode 5 0x643C95 = .noteOn 60 100

/-- R49: the outputs of DECODE, as arithmetic on the word. -/
def Obligations.DecodeExtractsFields : Prop :=
  ∀ (c : Nibble) (w : Msg),
    (decodeFields c w).channel.toNat = channelOf w
    ∧ (decodeFields c w).status.toNat = statusOf w
    ∧ (decodeFields c w).data1.toNat = data1Of w
    ∧ (decodeFields c w).data2.toNat = data2Of w
    ∧ ((decodeFields c w).acc = true ↔ channelOf w = c.toNat)
    ∧ ((decodeFields c w).dvalid = true ↔ data1Of w ≤ 127 ∧ data2Of w ≤ 127)

/-- R45: the decoder takes the first row of the class table that matches. -/
def Obligations.DecoderFollowsClassTable : Prop :=
  ∀ (c : Nibble) (w : Msg), classOf (decode c w) = classOfWord c w

/-- R46: the decoder takes the first row of the pattern table that matches, on every listening channel. For a word whose two
data bytes are both out of range, where R46 lets two INVALID_DATA rows overlap, that it is the data1 row is the model's choice
(log entry 6). -/
def Obligations.DecoderFollowsOpcodeTable : Prop :=
  ∀ (c : Nibble) (w : Msg),
    ((opcodeTable c).find? (fun p => p.fits w)).map Pattern.mnemonic = some (mnemonicOf (decode c w))

/-! ### Invariants -/

/-- The state after reset, and every boot state, meets the invariant (R96, R99). -/
def Obligations.BootMeetsInvariant : Prop :=
  Inv State.reset ∧ ∀ (c : Nibble) (events : List HostEvent), Inv (State.boot c events)

/-- Every step keeps the invariant (R22 to R25, R84), from every state that meets it. -/
def Obligations.StepKeepsInvariant : Prop :=
  ∀ (s t : State), Inv s → step s = .next t → Inv t

/-- R22: distinctness of the stack is kept by itself, whatever the other registers hold. -/
def Obligations.StepKeepsStackDistinct : Prop :=
  ∀ (s t : State), InvDistinct s → step s = .next t → InvDistinct t

/-- R22, R23, R24 and R25: the four invariants hold in every reachable state, on every listening channel and over every
sequence of host events. -/
def Obligations.ReachableStatesMeetInvariants : Prop :=
  ∀ s : State, Reachable s → InvDistinct s ∧ InvGateStack s ∧ InvIdle s ∧ InvTop s

/-- R17: LEN never exceeds 128, and a PRESS raises it only for an absent note, and then only from 127 or less. -/
def Obligations.StackNeverOverflows : Prop :=
  ∀ (s : State), InvDistinct s →
    s.len ≤ 128
    ∧ ∀ n : Note, (n ∈ s.stack → (press n s).len = s.len)
      ∧ (n ∉ s.stack → (press n s).len = s.len + 1 ∧ s.len ≤ 127)

/-! ### The fault -/

/-- R84: FAULT is sticky and FAULT_WORD keeps the first word; only reset clears them. -/
def Obligations.FaultIsStickyUntilReset : Prop :=
  ∀ (s t : State), s.fault = true → step s = .next t → (∀ rest, s.pending ≠ resetEvent :: rest) →
    t.fault = true ∧ t.faultWord = s.faultWord

/-- R81 and R83: the one exception is raised by an accepted message of status 8, 9, B or E with a data byte above 127, and by
nothing else; its word is recorded. -/
def Obligations.FaultIsRaisedByBadDataAlone : Prop :=
  ∀ (s t : State), s.fault = false → step s = .next t →
    (t.fault = true ↔ ∃ w rest, s.pending = messageEvent w :: rest ∧ channelOf w = s.listenCh.toNat ∧ BadData w
      ∧ t.faultWord = w)

/-- R61 and R84: FAULT does not gate processing. From two states that differ only in FAULT and FAULT_WORD, the same event
leads to states that differ only in those. -/
def Obligations.FaultDoesNotGateProcessing : Prop :=
  ∀ (s s' t : State), AgreeButFault s s' → step s = .next t → ∃ t', step s' = .next t' ∧ AgreeButFault t t'

/-- R87: the fault is precise. The state after a faulting transaction is the state before it with only FAULT and FAULT_WORD
changed. -/
def Obligations.FaultIsPrecise : Prop :=
  ∀ (s : State) (w : Msg) (rest : List HostEvent), s.pending = messageEvent w :: rest →
    channelOf w = s.listenCh.toNat → BadData w →
    ∃ t, step s = .next t ∧ AgreeButFault t { s with pending := rest } ∧ t.fault = true

/-! ### The note stack, the selector and the pedal -/

/-- R56: the five properties of the stack operations. -/
def Obligations.StackOperationProperties : Prop :=
  (∀ (s : State) (n : Note), InvDistinct s →
    InvDistinct (press n s) ∧ InvDistinct (release n s)
    ∧ (press n s).stack.getLast? = some n ∧ (press n s).cur = n
    ∧ (press n s).len = (if n ∈ s.stack then s.len else s.len + 1)
    ∧ (release n s).len + (if n ∈ s.stack then 1 else 0) = s.len)
  ∧ ∀ (s t : State) (m : Note), step s = .next t → m ∈ s.stack → m ∉ t.stack →
    (∃ rest, s.pending = resetEvent :: rest)
    ∨ ∃ w rest, s.pending = messageEvent w :: rest ∧ data1Of w = m.toNat
        ∧ (classOfWord s.listenCh w = .noteOff ∨ classOfWord s.listenCh w = .noteOnV0)

/-- R54: SELECT, in strict priority order, and its idempotence. -/
def Obligations.SelectIsLastNotePriority : Prop :=
  ∀ s : State,
    (s.pedal = true → select s = s)
    ∧ (∀ n, s.pedal = false → s.stack.getLast? = some n → select s = { s with cur := n })
    ∧ (s.pedal = false → s.stack = [] → select s = { s with gate := false })
    ∧ select (select s) = select s

/-- R53: releasing a note that is not on the stack changes nothing, from every state that meets the invariant. -/
def Obligations.ReleaseOfAbsentNoteIsNoOp : Prop :=
  ∀ (s : State) (n : Note) (v : Data7), Inv s → n ∉ s.stack →
    exec (.noteOff n v) s = .next s ∧ exec (.noteOnV0 n) s = .next s

/-- R52 and 90 C6: pressing the same note twice in a row is pressing it once, and pressing the top note changes nothing. -/
def Obligations.RepeatedPressIsOnePress : Prop :=
  ∀ (s : State) (n : Note), InvDistinct s →
    press n (press n s) = press n s
    ∧ (s.gate = true → s.cur = n → s.stack.getLast? = some n → press n s = s)

/-- R59: while the pedal is held, only a press, a pedal-off or a reset changes GATE or CUR. -/
def Obligations.HeldPedalSustainsVoice : Prop :=
  ∀ (s t : State), s.pedal = true → step s = .next t → (t.gate ≠ s.gate ∨ t.cur ≠ s.cur) →
    (∃ rest, s.pending = resetEvent :: rest)
    ∨ ∃ w rest, s.pending = messageEvent w :: rest
        ∧ (classOfWord s.listenCh w = .noteOn
          ∨ (classOfWord s.listenCh w = .ccSustain ∧ data2Of w < 64))

/-- R58: CC_SUSTAIN leaves the state that SET_PEDAL alone leaves, from every state that meets the invariant. -/
def Obligations.SustainEqualsSetPedal : Prop :=
  ∀ (s : State) (v : Data7), Inv s → exec (.ccSustain v) s = .next (setPedal (decide (64 ≤ v.toNat)) s)

/-- R19: the stack is emptied by one note-off for each entry, in any order, and the gate then closes unless the pedal is
held. -/
def Obligations.RepeatedReleasesClearStack : Prop :=
  ∀ (s : State) (order : List Note), s.pending = [] → order.Perm s.stack →
    ∃ t, drain (deliver (order.map fun n => messageEvent (encode s.listenCh (.noteOff n 0))) s) = .next t
      ∧ t.stack = []
      ∧ (s.pedal = false → (s.stack = [] → s.gate = false) → t.gate = false)
      ∧ (s.pedal = true → t.gate = s.gate ∧ t.cur = s.cur)

/-- R48 and R71: NOTE_ON_V0 of a note and NOTE_OFF of it, at any release velocity, are the same step. -/
def Obligations.ZeroVelocityNoteOnIsNoteOff : Prop :=
  ∀ (s : State) (n : Note) (v : Data7) (rest : List HostEvent),
    step { s with pending := messageEvent (packMsg 0 (byteOf n) 0x9 s.listenCh) :: rest }
      = step { s with pending := messageEvent (packMsg (byteOf v) (byteOf n) 0x8 s.listenCh) :: rest }

/-- R51 and R18: on the array with a length, the primitives' loops do to the live entries what the list operations do: PRESS
and RELEASE leave the same stack, the top is the same, and LEN stays within 128. -/
def Obligations.ArrayStackRefinesListStack : Prop :=
  ∀ (a : ArrayStack) (s : State) (n : Note), a.len ≤ 128 → a.live = s.stack → InvDistinct s →
    ((a.remove n).append n).live = (press n s).stack
    ∧ ((a.remove n).append n).len = (press n s).len
    ∧ ((a.remove n).append n).len ≤ 128
    ∧ (a.remove n).live = (release n s).stack
    ∧ (a.remove n).len = (release n s).len
    ∧ (0 < a.len → s.stack.getLast? = some a.top)

/-! ### Sequences of messages -/

/-- R37: a tick runs the pending messages in arrival order, each as PROCESS_MESSAGE, and then reads the outputs once. The
messages go through the model's list of events (log entry 1), which is empty before and after. -/
def Obligations.TickRunsMessagesThenReadsOutputs : Prop :=
  ∀ (fmt : Config.PitchFormat) (msgs : List Msg) (s : State), s.pending = [] →
    tick fmt msgs s = .ok
      (msgs.foldl (fun t w => processMessage w t) s,
        computeSignals fmt (msgs.foldl (fun t w => processMessage w t) s))

/-- R38: the block accepts any number of messages per tick, and a sequence of messages split over any number of ticks leaves the
same state as the same sequence in one tick. The ticks all complete, with one reading each and nothing left waiting (log
entry 1), and the last reading is the reading of the one tick. -/
def Obligations.TickGroupingDoesNotMatter : Prop :=
  ∀ (fmt : Config.PitchFormat) (batches : List (List Msg)) (s : State), s.pending = [] →
    ∃ (t : State) (readings : List Outputs),
      ticks fmt batches s = .ok (t, readings)
      ∧ tick fmt batches.flatten s = .ok (t, computeSignals fmt t)
      ∧ t.pending = []
      ∧ readings.length = batches.length
      ∧ ∀ o, readings.getLast? = some o → o = computeSignals fmt t

/-- R62: messages of other channels are invisible. Leaving them all out changes no state and no output. -/
def Obligations.OtherChannelsAreInvisible : Prop :=
  ∀ (fmt : Config.PitchFormat) (msgs : List Msg) (s : State), s.pending = [] →
    tick fmt msgs s = tick fmt (msgs.filter fun w => channelOf w == s.listenCh.toNat) s

/-- R64, R65 and R69: a release velocity, the value of a non-zero velocity, and the pitch wheel's fine byte have no effect. -/
def Obligations.UnusedOperandsDoNotMatter : Prop :=
  ∀ (s : State) (n m v v' : Data7) (rest : List HostEvent),
    step { s with pending := messageEvent (packMsg (byteOf v) (byteOf n) 0x8 s.listenCh) :: rest }
      = step { s with pending := messageEvent (packMsg (byteOf v') (byteOf n) 0x8 s.listenCh) :: rest }
    ∧ (v ≠ 0 → v' ≠ 0 →
      step { s with pending := messageEvent (packMsg (byteOf v) (byteOf n) 0x9 s.listenCh) :: rest }
        = step { s with pending := messageEvent (packMsg (byteOf v') (byteOf n) 0x9 s.listenCh) :: rest })
    ∧ step { s with pending := messageEvent (packMsg (byteOf m) (byteOf v) 0xE s.listenCh) :: rest }
      = step { s with pending := messageEvent (packMsg (byteOf m) (byteOf v') 0xE s.listenCh) :: rest }

/-- R72: every in-range source operation has a message with the same effect on the state, from every state that meets the
invariant; while the pedal is held a release of nothing needs none. -/
def Obligations.SourceOperationsAreMessages : Prop :=
  ∀ (s : State) (any : Data7), Inv s →
    (∀ n : Note, any ≠ 0 → ∃ w, SourceOp.message s.listenCh s.pedal any (.pressNote n.toNat) = .ok (some w)
      ∧ step { s with pending := messageEvent w :: s.pending } = .next (press n s))
    ∧ (∀ n : Note, ∃ w, SourceOp.message s.listenCh s.pedal any (.releaseNote n.toNat) = .ok (some w)
      ∧ step { s with pending := messageEvent w :: s.pending } = .next (release n s))
    ∧ (s.pedal = false → any.toNat < 64 →
      ∃ w, SourceOp.message s.listenCh s.pedal any .releaseNothing = .ok (some w)
        ∧ step { s with pending := messageEvent w :: s.pending } = .next (releaseNone s))
    ∧ (s.pedal = true → SourceOp.message s.listenCh s.pedal any .releaseNothing = .ok none ∧ releaseNone s = s)
    ∧ (∀ b : Bool, ∃ w, SourceOp.message s.listenCh s.pedal any (.setPedal b) = .ok (some w)
      ∧ step { s with pending := messageEvent w :: s.pending } = .next (setPedal b s))
    ∧ (∀ m : Data7, ∃ w, SourceOp.message s.listenCh s.pedal any (.setPitchWheel m.toNat) = .ok (some w)
      ∧ step { s with pending := messageEvent w :: s.pending } = .next (setPitchWheel m s))
    ∧ ∀ (ch st : Nibble) (d1 d2 : Byte), ∃ w,
      SourceOp.message s.listenCh s.pedal any (.processMessage ch.toNat st.toNat d1.toNat d2.toNat) = .ok (some w)
        ∧ w.toNat = d2.toNat * 65536 + d1.toNat * 256 + st.toNat * 16 + ch.toNat

/-- R72: an argument of 128 to 255 in a data position gives an INVALID_DATA message (for processMessage on the accepted channel
and a range-checked status, R63), and an argument that does not fit its field, a data byte, a channel or a status, is refused
at the interface. -/
def Obligations.OutOfRangeArgumentsAreRejected : Prop :=
  ∀ (c : Nibble) (pedal : Bool) (any : Data7),
    (∀ x : Int,
      (127 < x → x < 256 →
        (∃ w, SourceOp.message c pedal any (.pressNote x) = .ok (some w) ∧ classOfWord c w = .invalidData)
        ∧ (∃ w, SourceOp.message c pedal any (.releaseNote x) = .ok (some w) ∧ classOfWord c w = .invalidData)
        ∧ ∃ w, SourceOp.message c pedal any (.setPitchWheel x) = .ok (some w) ∧ classOfWord c w = .invalidData)
      ∧ (x < 0 ∨ 256 ≤ x →
        SourceOp.message c pedal any (.pressNote x) = .error .argumentOutOfRange
        ∧ SourceOp.message c pedal any (.releaseNote x) = .error .argumentOutOfRange
        ∧ SourceOp.message c pedal any (.setPitchWheel x) = .error .argumentOutOfRange))
    ∧ ∀ channel status data1 data2 : Int,
      (channel = c.toNat → status = 0x8 ∨ status = 0x9 ∨ status = 0xB ∨ status = 0xE →
        0 ≤ data1 → data1 < 256 → 0 ≤ data2 → data2 < 256 → 127 < data1 ∨ 127 < data2 →
        ∃ w, SourceOp.message c pedal any (.processMessage channel status data1 data2) = .ok (some w)
          ∧ classOfWord c w = .invalidData)
      ∧ (channel < 0 ∨ 16 ≤ channel ∨ status < 0 ∨ 16 ≤ status
          ∨ data1 < 0 ∨ 256 ≤ data1 ∨ data2 < 0 ∨ 256 ≤ data2 →
        SourceOp.message c pedal any (.processMessage channel status data1 data2) = .error .argumentOutOfRange)

/-- R28 and R98: a port change touches no register, and a host that asks for it resets the block. -/
def Obligations.PortChangeTouchesNoRegister : Prop :=
  ∀ s : State, s.pending = [] →
    drain (deliver (portChangeEvents false) s) = .next s
    ∧ drain (deliver (portChangeEvents true) s) = .next { State.reset with listenCh := s.listenCh }

/-! ### The outputs -/

/-- R75 and R76: the gate voltage is 5 or 0, and the pitch voltage is the source's formula, in exact arithmetic. -/
def Obligations.SignalsFollowSourceFormula : Prop :=
  ∀ s : State,
    gateV s = (if s.gate then 5 else 0)
    ∧ pitchExact s = (((s.cur.toNat : Rat) - 64) + 2 * ((s.pw.toNat : Rat) - 64) / 64) / 12

/-- R77: PITCH_NUM is 32 * (CUR - 64) + (PW - 64), from -2112 to 2079 with both ends taken, and fits its 16 bits without
wrapping; PITCH_NUM / 384 is the formula; it does not depend on GATE. -/
def Obligations.PitchNumIsExact : Prop :=
  ∀ s : State,
    (pitchNum s).toInt = 32 * ((s.cur.toNat : Int) - 64) + ((s.pw.toNat : Int) - 64)
    ∧ -2112 ≤ (pitchNum s).toInt ∧ (pitchNum s).toInt ≤ 2079
    ∧ ((pitchNum s).toInt = -2112 ↔ s.cur = 0 ∧ s.pw = 0)
    ∧ ((pitchNum s).toInt = 2079 ↔ s.cur = 127 ∧ s.pw = 127)
    ∧ ((pitchNum s).toInt : Rat) / 384 = pitchFormula s.cur s.pw
    ∧ ∀ g : Bool, pitchNum { s with gate := g } = pitchNum s

/-- R78: PITCH_V is PITCH_NUM / 384, exactly or as the bits of a binary format. Those bits are of the finite value nearest
PITCH_NUM / 384: no other is nearer, and where another is as near, the fraction is even. Zero is +0.0. -/
def Obligations.PitchVoltageIsNearestEven : Prop :=
  (∀ s : State, pitchV .exact s = .exact (((pitchNum s).toInt : Rat) / 384)
    ∧ (∃ b : BitVec 64, pitchV .binary64 s = .binary64 b ∧ b.toNat = roundNearestEven binary64 (pitchExact s))
    ∧ ∃ b : BitVec 32, pitchV .binary32 s = .binary32 b ∧ b.toNat = roundNearestEven binary32 (pitchExact s))
  ∧ ∀ (s : State) (f : IeeeFormat), f = binary64 ∨ f = binary32 →
    roundNearestEven f (pitchExact s) < 2 ^ f.width
    ∧ ieeeFinite f (roundNearestEven f (pitchExact s)) = true
    ∧ (pitchExact s = 0 → roundNearestEven f (pitchExact s) = 0)
    ∧ ∀ bits : Nat, bits < 2 ^ f.width → ieeeFinite f bits = true →
      |ieeeValue f (roundNearestEven f (pitchExact s)) - pitchExact s| ≤ |ieeeValue f bits - pitchExact s|
      ∧ (|ieeeValue f (roundNearestEven f (pitchExact s)) - pitchExact s| = |ieeeValue f bits - pitchExact s| →
          ieeeValue f bits ≠ ieeeValue f (roundNearestEven f (pitchExact s)) →
          ieeeFraction f (roundNearestEven f (pitchExact s)) % 2 = 0)

/-- R78: the formula evaluated in binary64 in the order written rounds once, to the binary64 PITCH_V. -/
def Obligations.Binary64EvaluationRoundsOnce : Prop :=
  ∀ s : State, pitchFormulaRounded binary64 s.cur s.pw = roundNearestEven binary64 (pitchExact s)

/-- R78: rounding the binary64 PITCH_V to binary32 gives the binary32 PITCH_V. -/
def Obligations.Binary32RoundingsAgree : Prop :=
  ∀ s : State,
    roundNearestEven binary32 (ieeeValue binary64 (roundNearestEven binary64 (pitchExact s)))
      = roundNearestEven binary32 (pitchExact s)

/-- R79: the wheel adds (PW - 64) / 384: nothing at 64, -2/12 at 0, and 21/128, not +2/12, at 127. -/
def Obligations.WheelContribution : Prop :=
  ∀ s : State,
    pitchExact s = pitchExact { s with pw := 64 } + ((s.pw.toNat : Rat) - 64) / 384
    ∧ pitchExact { s with pw := 0 } = pitchExact { s with pw := 64 } - 2 / 12
    ∧ pitchExact { s with pw := 127 } = pitchExact { s with pw := 64 } + 21 / 128

/-- R80: note 64 with the wheel centred is 0.0; one note is 32 steps of PITCH_NUM, and twelve notes are one unit. -/
def Obligations.SemitoneAndOctaveSteps : Prop :=
  ∀ (s : State) (n : Note),
    pitchExact { s with cur := 64, pw := 64 } = 0
    ∧ (n.toNat = s.cur.toNat + 1 → (pitchNum { s with cur := n }).toInt = (pitchNum s).toInt + 32)
    ∧ (n.toNat = s.cur.toNat + 12 → pitchExact { s with cur := n } = pitchExact s + 1)
end

