-- ==== Sys2Proof/Laws/State.lean ====
section
/-! SUPPORT. What each register write of Machine/Registers.lean does to each field of State: it sets its own and leaves every
other one as it was. -/

namespace Sys2Proof.Machine

@[simp] theorem State.writeCur_cur (s : State) (n : Note) : (s.writeCur n).cur = n := rfl
@[simp] theorem State.writeCur_gate (s : State) (n : Note) : (s.writeCur n).gate = s.gate := rfl
@[simp] theorem State.writeCur_pedal (s : State) (n : Note) : (s.writeCur n).pedal = s.pedal := rfl
@[simp] theorem State.writeCur_pw (s : State) (n : Note) : (s.writeCur n).pw = s.pw := rfl
@[simp] theorem State.writeCur_stack (s : State) (n : Note) : (s.writeCur n).stack = s.stack := rfl
@[simp] theorem State.writeCur_fault (s : State) (n : Note) : (s.writeCur n).fault = s.fault := rfl
@[simp] theorem State.writeCur_faultWord (s : State) (n : Note) : (s.writeCur n).faultWord = s.faultWord := rfl
@[simp] theorem State.writeCur_listenCh (s : State) (n : Note) : (s.writeCur n).listenCh = s.listenCh := rfl
@[simp] theorem State.writeCur_pending (s : State) (n : Note) : (s.writeCur n).pending = s.pending := rfl

@[simp] theorem State.writeGate_cur (s : State) (b : Bool) : (s.writeGate b).cur = s.cur := rfl
@[simp] theorem State.writeGate_gate (s : State) (b : Bool) : (s.writeGate b).gate = b := rfl
@[simp] theorem State.writeGate_pedal (s : State) (b : Bool) : (s.writeGate b).pedal = s.pedal := rfl
@[simp] theorem State.writeGate_pw (s : State) (b : Bool) : (s.writeGate b).pw = s.pw := rfl
@[simp] theorem State.writeGate_stack (s : State) (b : Bool) : (s.writeGate b).stack = s.stack := rfl
@[simp] theorem State.writeGate_fault (s : State) (b : Bool) : (s.writeGate b).fault = s.fault := rfl
@[simp] theorem State.writeGate_faultWord (s : State) (b : Bool) : (s.writeGate b).faultWord = s.faultWord := rfl
@[simp] theorem State.writeGate_listenCh (s : State) (b : Bool) : (s.writeGate b).listenCh = s.listenCh := rfl
@[simp] theorem State.writeGate_pending (s : State) (b : Bool) : (s.writeGate b).pending = s.pending := rfl

@[simp] theorem State.writePedal_cur (s : State) (b : Bool) : (s.writePedal b).cur = s.cur := rfl
@[simp] theorem State.writePedal_gate (s : State) (b : Bool) : (s.writePedal b).gate = s.gate := rfl
@[simp] theorem State.writePedal_pedal (s : State) (b : Bool) : (s.writePedal b).pedal = b := rfl
@[simp] theorem State.writePedal_pw (s : State) (b : Bool) : (s.writePedal b).pw = s.pw := rfl
@[simp] theorem State.writePedal_stack (s : State) (b : Bool) : (s.writePedal b).stack = s.stack := rfl
@[simp] theorem State.writePedal_fault (s : State) (b : Bool) : (s.writePedal b).fault = s.fault := rfl
@[simp] theorem State.writePedal_faultWord (s : State) (b : Bool) : (s.writePedal b).faultWord = s.faultWord := rfl
@[simp] theorem State.writePedal_listenCh (s : State) (b : Bool) : (s.writePedal b).listenCh = s.listenCh := rfl
@[simp] theorem State.writePedal_pending (s : State) (b : Bool) : (s.writePedal b).pending = s.pending := rfl

@[simp] theorem State.writePw_cur (s : State) (m : Data7) : (s.writePw m).cur = s.cur := rfl
@[simp] theorem State.writePw_gate (s : State) (m : Data7) : (s.writePw m).gate = s.gate := rfl
@[simp] theorem State.writePw_pedal (s : State) (m : Data7) : (s.writePw m).pedal = s.pedal := rfl
@[simp] theorem State.writePw_pw (s : State) (m : Data7) : (s.writePw m).pw = m := rfl
@[simp] theorem State.writePw_stack (s : State) (m : Data7) : (s.writePw m).stack = s.stack := rfl
@[simp] theorem State.writePw_fault (s : State) (m : Data7) : (s.writePw m).fault = s.fault := rfl
@[simp] theorem State.writePw_faultWord (s : State) (m : Data7) : (s.writePw m).faultWord = s.faultWord := rfl
@[simp] theorem State.writePw_listenCh (s : State) (m : Data7) : (s.writePw m).listenCh = s.listenCh := rfl
@[simp] theorem State.writePw_pending (s : State) (m : Data7) : (s.writePw m).pending = s.pending := rfl

@[simp] theorem State.writeStack_cur (s : State) (l : List Note) : (s.writeStack l).cur = s.cur := rfl
@[simp] theorem State.writeStack_gate (s : State) (l : List Note) : (s.writeStack l).gate = s.gate := rfl
@[simp] theorem State.writeStack_pedal (s : State) (l : List Note) : (s.writeStack l).pedal = s.pedal := rfl
@[simp] theorem State.writeStack_pw (s : State) (l : List Note) : (s.writeStack l).pw = s.pw := rfl
@[simp] theorem State.writeStack_stack (s : State) (l : List Note) : (s.writeStack l).stack = l := rfl
@[simp] theorem State.writeStack_fault (s : State) (l : List Note) : (s.writeStack l).fault = s.fault := rfl
@[simp] theorem State.writeStack_faultWord (s : State) (l : List Note) : (s.writeStack l).faultWord = s.faultWord := rfl
@[simp] theorem State.writeStack_listenCh (s : State) (l : List Note) : (s.writeStack l).listenCh = s.listenCh := rfl
@[simp] theorem State.writeStack_pending (s : State) (l : List Note) : (s.writeStack l).pending = s.pending := rfl

@[simp] theorem State.writeFault_cur (s : State) (b : Bool) : (s.writeFault b).cur = s.cur := rfl
@[simp] theorem State.writeFault_gate (s : State) (b : Bool) : (s.writeFault b).gate = s.gate := rfl
@[simp] theorem State.writeFault_pedal (s : State) (b : Bool) : (s.writeFault b).pedal = s.pedal := rfl
@[simp] theorem State.writeFault_pw (s : State) (b : Bool) : (s.writeFault b).pw = s.pw := rfl
@[simp] theorem State.writeFault_stack (s : State) (b : Bool) : (s.writeFault b).stack = s.stack := rfl
@[simp] theorem State.writeFault_fault (s : State) (b : Bool) : (s.writeFault b).fault = b := rfl
@[simp] theorem State.writeFault_faultWord (s : State) (b : Bool) : (s.writeFault b).faultWord = s.faultWord := rfl
@[simp] theorem State.writeFault_listenCh (s : State) (b : Bool) : (s.writeFault b).listenCh = s.listenCh := rfl
@[simp] theorem State.writeFault_pending (s : State) (b : Bool) : (s.writeFault b).pending = s.pending := rfl

@[simp] theorem State.writeFaultWord_cur (s : State) (w : Msg) : (s.writeFaultWord w).cur = s.cur := rfl
@[simp] theorem State.writeFaultWord_gate (s : State) (w : Msg) : (s.writeFaultWord w).gate = s.gate := rfl
@[simp] theorem State.writeFaultWord_pedal (s : State) (w : Msg) : (s.writeFaultWord w).pedal = s.pedal := rfl
@[simp] theorem State.writeFaultWord_pw (s : State) (w : Msg) : (s.writeFaultWord w).pw = s.pw := rfl
@[simp] theorem State.writeFaultWord_stack (s : State) (w : Msg) : (s.writeFaultWord w).stack = s.stack := rfl
@[simp] theorem State.writeFaultWord_fault (s : State) (w : Msg) : (s.writeFaultWord w).fault = s.fault := rfl
@[simp] theorem State.writeFaultWord_faultWord (s : State) (w : Msg) : (s.writeFaultWord w).faultWord = w := rfl
@[simp] theorem State.writeFaultWord_listenCh (s : State) (w : Msg) : (s.writeFaultWord w).listenCh = s.listenCh := rfl
@[simp] theorem State.writeFaultWord_pending (s : State) (w : Msg) : (s.writeFaultWord w).pending = s.pending := rfl

@[simp] theorem State.writePending_cur (s : State) (l : List HostEvent) : (s.writePending l).cur = s.cur := rfl
@[simp] theorem State.writePending_gate (s : State) (l : List HostEvent) : (s.writePending l).gate = s.gate := rfl
@[simp] theorem State.writePending_pedal (s : State) (l : List HostEvent) : (s.writePending l).pedal = s.pedal := rfl
@[simp] theorem State.writePending_pw (s : State) (l : List HostEvent) : (s.writePending l).pw = s.pw := rfl
@[simp] theorem State.writePending_stack (s : State) (l : List HostEvent) : (s.writePending l).stack = s.stack := rfl
@[simp] theorem State.writePending_fault (s : State) (l : List HostEvent) : (s.writePending l).fault = s.fault := rfl
@[simp] theorem State.writePending_faultWord (s : State) (l : List HostEvent) : (s.writePending l).faultWord = s.faultWord := rfl
@[simp] theorem State.writePending_listenCh (s : State) (l : List HostEvent) : (s.writePending l).listenCh = s.listenCh := rfl
@[simp] theorem State.writePending_pending (s : State) (l : List HostEvent) : (s.writePending l).pending = l := rfl

end Sys2Proof.Machine
end

