-- ==== Sys2Proof/Laws/Ops.lean ====
section
/-! SUPPORT. What each shared operation can do, said once: its result as an update of the state, and the fields it leaves
alone. -/

namespace Sys2Proof.Machine

/-! ### The note stack -/

/-- Deleting the first occurrence found is deleting the note from the list. -/
theorem eraseIdx_of_find (l : List Note) (n : Note) :
    (match l.findIdx? (· == n) with | some i => l.eraseIdx i | none => l) = l.erase n := by
  induction l with
  | nil => rfl
  | cons x xs ih =>
    rw [List.findIdx?_cons, List.erase_cons]
    by_cases h : (x == n) = true
    · simp [h]
    · simp only [h]
      cases hx : xs.findIdx? (· == n) with
      | none => simpa [hx] using ih
      | some i => simpa [hx] using ih

/-- The removal step removes the first occurrence and nothing else (R51, R53). -/
theorem removeNote_eq (n : Note) (s : State) : removeNote n s = s.writeStack (s.stack.erase n) := by
  unfold removeNote stkFind
  rw [← eraseIdx_of_find]
  cases s.stack.findIdx? (· == n) <;> rfl

/-! ### PRESS, SELECT, RELEASE, SET_PEDAL -/

/-- PRESS as one update (R52). -/
theorem press_eq (n : Note) (s : State) :
    press n s = { s with stack := s.stack.erase n ++ [n], gate := true, cur := n } := by
  unfold press stkAppend gateOn
  rw [removeNote_eq]
  rfl

/-- SELECT while the pedal is held (R54 case 1). -/
theorem select_held {s : State} (h : s.pedal = true) : select s = s := by
  unfold select
  rw [if_pos h]

/-- SELECT with the pedal up and a top (R54 case 2). -/
theorem select_top {s : State} {n : Note} (h : s.pedal = false) (ht : s.stack.getLast? = some n) :
    select s = { s with cur := n } := by
  unfold select stkTop
  rw [if_neg (by simp [h]), ht]
  rfl

/-- SELECT with the pedal up and an empty stack (R54 case 3). -/
theorem select_empty {s : State} (h : s.pedal = false) (ht : s.stack = []) :
    select s = { s with gate := false } := by
  have hn : s.stack.getLast? = none := by rw [ht]; rfl
  unfold select stkTop
  rw [if_neg (by simp [h]), hn]
  rfl

/-- Everything SELECT can do. -/
theorem select_cases (s : State) :
    (s.pedal = true ∧ select s = s)
      ∨ (s.pedal = false ∧ ∃ n, s.stack.getLast? = some n ∧ select s = { s with cur := n })
      ∨ (s.pedal = false ∧ s.stack = [] ∧ select s = { s with gate := false }) := by
  rcases Bool.eq_false_or_eq_true s.pedal with hp | hp
  · exact .inl ⟨hp, select_held hp⟩
  · rcases Option.eq_none_or_eq_some s.stack.getLast? with ht | ⟨n, ht⟩
    · have he : s.stack = [] := by simpa using ht
      exact .inr (.inr ⟨hp, he, select_empty hp he⟩)
    · exact .inr (.inl ⟨hp, n, ht, select_top hp ht⟩)

/-- SELECT changes CUR and GATE alone. -/
theorem select_frame (s : State) : ∃ n g, select s = { s with cur := n, gate := g } := by
  obtain ⟨-, h⟩ | ⟨-, n, -, h⟩ | ⟨-, -, h⟩ := select_cases s
  · exact ⟨s.cur, s.gate, h⟩
  · exact ⟨n, s.gate, h⟩
  · exact ⟨s.cur, false, h⟩

/-- RELEASE is the removal and then SELECT (R53). -/
theorem release_eq (n : Note) (s : State) : release n s = select { s with stack := s.stack.erase n } := by
  unfold release
  rw [removeNote_eq]
  rfl

/-- RELEASE changes the stack, CUR and GATE alone. -/
theorem release_frame (n : Note) (s : State) :
    ∃ m g, release n s = { s with stack := s.stack.erase n, cur := m, gate := g } := by
  rw [release_eq]
  exact select_frame _

/-- SET_PEDAL: SELECT runs on a held-to-not-held transition and only then (R57). -/
theorem setPedal_eq (held : Bool) (s : State) :
    setPedal held s =
      if s.pedal = true ∧ held = false then select { s with pedal := false } else { s with pedal := held } := by
  cases hp : s.pedal <;> cases held <;> simp [setPedal, pedalLifts, hp, State.writePedal, releaseNone]

/-- SET_PEDAL changes PEDAL, CUR and GATE alone. -/
theorem setPedal_frame (held : Bool) (s : State) :
    ∃ n g, setPedal held s = { s with pedal := held, cur := n, gate := g } := by
  rw [setPedal_eq]
  split
  · next h =>
    obtain ⟨n, g, h'⟩ := select_frame { s with pedal := false }
    exact ⟨n, g, by rw [h', h.2]⟩
  · exact ⟨s.cur, s.gate, rfl⟩

/-- CC_SUSTAIN's two operations are one SELECT on the state with the pedal written: the two SELECTs of a pedal lift are one,
and while the pedal is held SELECT does nothing (R67, R54). -/
theorem sustain_eq (held : Bool) (s : State) : releaseNone (setPedal held s) = select { s with pedal := held } := by
  have idem : ∀ t : State, select (select t) = select t := fun t => by
    obtain ⟨hp, h⟩ | ⟨hp, n, ht, h⟩ | ⟨hp, ht, h⟩ := select_cases t
    · rw [h, h]
    · rw [h, select_top (s := { t with cur := n }) hp ht]
    · rw [h, select_empty (s := { t with gate := false }) hp ht]
  rw [releaseNone, setPedal_eq]
  split
  · next h => rw [h.2, idem]
  · rfl

/-- CC_SUSTAIN's two operations change PEDAL, CUR and GATE alone (R67). -/
theorem sustain_frame (held : Bool) (s : State) :
    ∃ n g, releaseNone (setPedal held s) = { s with pedal := held, cur := n, gate := g } := by
  rw [sustain_eq]
  exact select_frame _

/-- SET_PITCH_WHEEL as one update (R60). -/
theorem setPitchWheel_eq (m : Data7) (s : State) : setPitchWheel m s = { s with pw := m } := rfl

/-! ### The exception, reset, and the host's events -/

/-- Taking InvalidArgument as one update (R82). -/
theorem raiseInvalidArgument_eq (w : Msg) (s : State) :
    raiseInvalidArgument w s = { s with fault := true, faultWord := if s.fault then s.faultWord else w } := by
  unfold raiseInvalidArgument faultOn captureFaultWord
  cases h : s.fault <;> simp [State.writeFault, State.writeFaultWord]

/-- RESET as one update (R96). -/
theorem applyReset_eq (s : State) :
    applyReset s =
      { cur := 64, gate := false, pedal := false, pw := 64, stack := [], fault := false, faultWord := 0,
        listenCh := s.listenCh, pending := s.pending } := rfl

theorem takeEvent_nil {s : State} (h : s.pending = []) : takeEvent s = none := by
  unfold takeEvent
  rw [h]

theorem takeEvent_cons {s : State} {e : HostEvent} {rest : List HostEvent} (h : s.pending = e :: rest) :
    takeEvent s = some (e, { s with pending := rest }) := by
  unfold takeEvent
  rw [h]
  rfl

end Sys2Proof.Machine
end

