-- ==== Sys2Proof/Laws/Step.lean ====
section
/-! SUPPORT. What one instruction and one step can do, said once. -/

namespace Sys2Proof.Machine

/-- Everything an instruction can do: it always answers a next state, by one of six updates. -/
theorem exec_cases (i : Instr) (s : State) :
    exec i s = .next s
      ∨ (∃ w, faultingWord s.listenCh i = some w ∧ exec i s = .next (raiseInvalidArgument w s))
      ∨ (∃ n v, i = .noteOn n v ∧ exec i s = .next (press n s))
      ∨ (∃ n, ((∃ v, i = .noteOff n v) ∨ i = .noteOnV0 n) ∧ exec i s = .next (release n s))
      ∨ (∃ v, i = .ccSustain v ∧ exec i s = .next (releaseNone (setPedal (pedalHeld v) s)))
      ∨ (∃ l m, i = .pitchWheel l m ∧ exec i s = .next (setPitchWheel m s)) := by
  cases i with
  | noteOff n v => exact .inr (.inr (.inr (.inl ⟨n, .inl ⟨v, rfl⟩, rfl⟩)))
  | noteOnV0 n => exact .inr (.inr (.inr (.inl ⟨n, .inr rfl, rfl⟩)))
  | noteOn n v => exact .inr (.inr (.inl ⟨n, v, rfl, rfl⟩))
  | ccSustain v => exact .inr (.inr (.inr (.inr (.inl ⟨v, rfl, rfl⟩))))
  | pitchWheel l m => exact .inr (.inr (.inr (.inr (.inr ⟨l, m, rfl, rfl⟩))))
  | invalidStatus8Data1 | invalidStatus8Data2 | invalidStatus9Data1 | invalidStatus9Data2
  | invalidStatusBData1 | invalidStatusBData2 | invalidStatusEData1 | invalidStatusEData2 =>
    exact .inr (.inl ⟨_, rfl, rfl⟩)
  | _ => exact .inl rfl

theorem step_idle {s : State} (h : s.pending = []) : step s = .next s := by
  unfold step
  rw [takeEvent_nil h]

/-- A step on a waiting event, as a case split on the event. -/
theorem step_cons {s : State} {e : HostEvent} {rest : List HostEvent} (h : s.pending = e :: rest) :
    step s = match (generalizing := false) e with
      | .transaction (.message w) => exec (decode s.listenCh w) { s with pending := rest }
      | .transaction .reset => .next (applyReset { s with pending := rest })
      | .readSignals => .next { s with pending := rest }
      | .overlapping _ _ => .refused .overlappingTransactions
      | .driveListenCh c => holdListenCh c { s with pending := rest } := by
  unfold step
  rw [takeEvent_cons h]
  cases e with
  | transaction t => cases t <;> rfl
  | _ => rfl

/-- Everything a step that answers a next state can have done: idled, or taken the first waiting event. -/
theorem step_cases {s t : State} (h : step s = .next t) :
    (s.pending = [] ∧ t = s)
      ∨ ∃ e rest, s.pending = e :: rest
          ∧ ((∃ w, e = .transaction (.message w) ∧ exec (decode s.listenCh w) { s with pending := rest } = .next t)
            ∨ (e = .transaction .reset ∧ t = applyReset { s with pending := rest })
            ∨ (e = .readSignals ∧ t = { s with pending := rest })
            ∨ (e = .driveListenCh s.listenCh ∧ t = { s with pending := rest })) := by
  cases hp : s.pending with
  | nil =>
    rw [step_idle hp] at h
    cases h
    exact .inl ⟨rfl, rfl⟩
  | cons e rest =>
    refine .inr ⟨e, rest, rfl, ?_⟩
    rw [step_cons hp] at h
    cases e with
    | transaction x =>
      cases x with
      | message w => exact .inl ⟨w, rfl, h⟩
      | reset => cases h; exact .inr (.inl ⟨rfl, rfl⟩)
    | readSignals => cases h; exact .inr (.inr (.inl ⟨rfl, rfl⟩))
    | overlapping => cases h
    | driveListenCh c =>
      simp only [holdListenCh] at h
      split at h
      · next hc => cases h; exact .inr (.inr (.inr ⟨by rw [hc], rfl⟩))
      · cases h

end Sys2Proof.Machine
end

