-- ==== Sys2Proof/Laws/HostSide.lean ====
section
/-! SUPPORT. What the host-side functions of Machine/HostSide.lean do, said once. -/

namespace Sys2Proof.Machine

@[simp] theorem deliver_pending (events : List HostEvent) (s : State) :
    (deliver events s).pending = s.pending ++ events := rfl

@[simp] theorem deliver_listenCh (events : List HostEvent) (s : State) : (deliver events s).listenCh = s.listenCh := rfl

/-- Delivering nothing changes nothing. -/
theorem deliver_nil (s : State) : deliver [] s = s := by
  simp [deliver, State.writePending]

/-- With no event waiting there is nothing to drain. -/
theorem drain_idle {s : State} (h : s.pending = []) : drain s = .next s := by
  rw [drain, h]
  rfl

theorem ticks_nil (fmt : Config.PitchFormat) (s : State) : ticks fmt [] s = .ok (s, []) := rfl

/-- A tick that completes, and then the later ones. -/
theorem ticks_cons {fmt : Config.PitchFormat} {batch : List Msg} {later : List (List Msg)} {s t u : State} {o : Outputs}
    {readings : List Outputs} (h : tick fmt batch s = .ok (t, o)) (h' : ticks fmt later t = .ok (u, readings)) :
    ticks fmt (batch :: later) s = .ok (u, o :: readings) := by
  simp only [ticks, h, h']

/-- An argument that fits its field is the field. -/
theorem fieldArg_fits {k : Nat} {x : Int} (h : 0 ≤ x) (h' : x < 2 ^ k) : fieldArg k x = .ok (BitVec.ofInt k x) :=
  if_pos ⟨h, h'⟩

/-- An argument that does not fit its field is refused at the interface (R72). -/
theorem fieldArg_refused {k : Nat} {x : Int} (h : x < 0 ∨ 2 ^ k ≤ x) : fieldArg k x = .error .argumentOutOfRange :=
  if_neg (by omega)

end Sys2Proof.Machine
end

