-- ==== Sys2Proof/Tests/Slice0.lean ====
section
/-! SUPPORT. The model's own tests. Expected results are the spec's: the worked examples of the rules and the vectors of
spec/95_test_vectors.md, named in each test's comment. The last section shows, for every statement with hypotheses, a
concrete state and operands that meet them. -/

namespace Sys2Proof.Tests

open Sys2Proof.Machine

/-- The next state of an outcome, if it is one. -/
def nextOf (o : Host.Outcome State Fault Refusal) : Option State :=
  match o with
  | .next t => some t
  | .refused _ => none

/-- The reason of a refusal, if it is one. -/
def refusalOf (o : Host.Outcome State Fault Refusal) : Option Refusal :=
  match o with
  | .next _ => none
  | .refused r => some r

/-- One message strobe on a state with nothing waiting. -/
def send (s : State) (w : Msg) : Option State := nextOf (step { s with pending := [messageEvent w] })

/-- A state of the vectors: stack, CUR, GATE and PEDAL, everything else as after reset. -/
def engine (stack : List Note) (cur : Note) (gate pedal : Bool) : State :=
  { State.reset with stack := stack, cur := cur, gate := gate, pedal := pedal }

/-- S60 of 95_test_vectors.md L2-M. -/
def s60 : State := engine [60] 60 true false

/-! ### WellFormed: one ill-formed term for each check -/

theorem test_discard_of_listening_channel_ill_formed : WellFormed 3 (.discardCh3 9 60 100) = false := by decide
theorem test_discard_of_channel_zero_ill_formed_by_default : WellFormed 0 (.discardCh0 9 60 100) = false := by decide
theorem test_note_on_without_velocity_ill_formed : WellFormed 0 (.noteOn 60 0) = false := by decide
theorem test_cc_other_sustain_controller_ill_formed : WellFormed 0 (.ccOther 0x40 1) = false := by decide
theorem test_well_formed_terms :
    WellFormed 3 (.discardCh0 9 60 100) = true ∧ WellFormed 0 (.noteOn 60 1) = true
      ∧ WellFormed 0 (.ccOther 0x41 1) = true := by decide

/-! ### Decoding, one word written out bit by bit from R46 for each row -/

/-- R49 worked example and L2-D1. -/
theorem test_decode_fields : decodeFields 0 0x643C90 = ⟨0, 9, 60, 100, true, true⟩ := by decide
/-- L2-D4: every bit set. -/
theorem test_decode_fields_all_ones : decodeFields 0 0xFFFFFF = ⟨15, 0xF, 255, 255, false, false⟩ := by decide
/-- L2-D6 and L2-D7: one data byte out of range. -/
theorem test_decode_fields_out_of_range :
    decodeFields 0 0x00C890 = ⟨0, 9, 200, 0, true, false⟩ ∧ decodeFields 0 0x8000B0 = ⟨0, 0xB, 0, 128, true, false⟩ := by
  decide
/-- L2-D8 and L2-D9: the channel filter follows LISTEN_CH. -/
theorem test_decode_fields_channel :
    (decodeFields 5 0x7F40B5).acc = true ∧ (decodeFields 0 0x7F40B5).acc = false
      ∧ (decodeFields 5 0x643C90).acc = false := by decide

/-- DISCARD rows of R46, bits 3..0 the channel. -/
theorem test_decode_discards :
    decode 0 0b011001000011110010010001 = .discardCh1 9 0x3C 0x64
      ∧ decode 0 0b111111110011110010011111 = .discardCh15 9 0x3C 0xFF
      ∧ decode 5 0b000000000000000000000000 = .discardCh0 0 0 0
      ∧ decode 0 0x000002 = .discardCh2 0 0 0 ∧ decode 0 0x000003 = .discardCh3 0 0 0
      ∧ decode 0 0x000004 = .discardCh4 0 0 0 ∧ decode 0 0x000005 = .discardCh5 0 0 0
      ∧ decode 0 0x000006 = .discardCh6 0 0 0 ∧ decode 0 0x000007 = .discardCh7 0 0 0 := by decide
theorem test_decode_discards_high :
    decode 0 0x000008 = .discardCh8 0 0 0 ∧ decode 0 0x000009 = .discardCh9 0 0 0
      ∧ decode 0 0x00000A = .discardCh10 0 0 0 ∧ decode 0 0x00000B = .discardCh11 0 0 0
      ∧ decode 0 0x00000C = .discardCh12 0 0 0 ∧ decode 0 0x00000D = .discardCh13 0 0 0
      ∧ decode 0 0x00000E = .discardCh14 0 0 0 := by decide
/-- INVALID_DATA rows of R46: 1xxxxxxx in data1, or in data2. -/
theorem test_decode_invalid :
    decode 0 0b000000001000000010000000 = .invalidStatus8Data1 0 0
      ∧ decode 0 0b100000000000000010000000 = .invalidStatus8Data2 0 0
      ∧ decode 0 0b000000001100100010010000 = .invalidStatus9Data1 0x48 0
      ∧ decode 0 0b100000000000000010010000 = .invalidStatus9Data2 0 0
      ∧ decode 0 0b000000001000000010110000 = .invalidStatusBData1 0 0
      ∧ decode 0 0b111111110100000010110000 = .invalidStatusBData2 0x40 0x7F
      ∧ decode 0 0b000000001000000011100000 = .invalidStatusEData1 0 0
      ∧ decode 0 0b100000000011110011100000 = .invalidStatusEData2 0x3C 0
      ∧ decode 0 0b100000001011010010010000 = .invalidStatus9Data1 0x34 0x80 := by decide
/-- 0vvvvvvv 0nnnnnnn 1000cccc. -/
theorem test_decode_note_off :
    decode 0 0b001010000100001110000000 = .noteOff 67 40 ∧ decode 7 0b000000000111111110000111 = .noteOff 127 0 := by
  decide
/-- 0vvvvvvv 0nnnnnnn 1001cccc with v = 0 and with v != 0. -/
theorem test_decode_note_on :
    decode 0 0b000000000011110010010000 = .noteOnV0 60 ∧ decode 0 0b000000010011110010010000 = .noteOn 60 1
      ∧ decode 0 0b011111110000000010010000 = .noteOn 0 127 := by decide
/-- 0vvvvvvv 01000000 1011cccc, and 0vvvvvvv 0kkkkkkk 1011cccc with k next to 0x40 (L2-M3). -/
theorem test_decode_control_change :
    decode 0 0b011111110100000010110000 = .ccSustain 127 ∧ decode 0 0b011111110011111110110000 = .ccOther 63 127
      ∧ decode 0 0b011111110100000110110000 = .ccOther 65 127 := by decide
/-- 0mmmmmmm 0lllllll 1110cccc (L2-C9). -/
theorem test_decode_pitch_wheel : decode 0 0b000000000111111111100000 = .pitchWheel 127 0 := by decide
/-- xxxxxxxx xxxxxxxx sssscccc for the statuses of R70. -/
theorem test_decode_ignored :
    decode 0 0b000000000000000000000000 = .ignoredStatus0 0 0 ∧ decode 0 0x000010 = .ignoredStatus1 0 0
      ∧ decode 0 0x000020 = .ignoredStatus2 0 0 ∧ decode 0 0x000030 = .ignoredStatus3 0 0
      ∧ decode 0 0x000040 = .ignoredStatus4 0 0 ∧ decode 0 0x000050 = .ignoredStatus5 0 0
      ∧ decode 0 0x000060 = .ignoredStatus6 0 0 ∧ decode 0 0x3C4070 = .ignoredStatus7 0x40 0x3C
      ∧ decode 0 0x7F3CA0 = .ignoredStatusA 0x3C 0x7F ∧ decode 0 0x0005C0 = .ignoredStatusC 5 0
      ∧ decode 0 0x7FFFD0 = .ignoredStatusD 0xFF 0x7F ∧ decode 0 0xFFFFF0 = .ignoredStatusF 0xFF 0xFF := by decide
/-- A truncated message is rejected by name, and the bytes after a message are left (R32). -/
theorem test_decode_bytes :
    (match decodeBytes 0 [0x90, 0x3C] with | .error .truncated => true | .ok _ => false) = true
      ∧ (match decodeBytes 0 [0x90, 0x3C, 0x64, 0x80] with
          | .ok (i, rest) => i == .noteOn 60 100 && rest == [0x80]
          | .error _ => false) = true := by decide
/-- The table's numbering of a row's bits, and a wider number refused. -/
theorem test_decode_table_word :
    decodeTableWord 24 0x0040B0 = some (.ccSustain 0) ∧ decodeTableWord 24 0x1000090 = none := by decide
/-- 30_encoding.md section 5: the word of each line. -/
theorem test_line_words :
    Line.event 0 (.noteOn none 60 100) = messageEvent 0x643C90 ∧ Line.event 0 (.noteOff none 67 40) = messageEvent 0x284380
      ∧ Line.event 0 .pedalOn = messageEvent 0x7F40B0 ∧ Line.event 0 .pedalOff = messageEvent 0x0040B0
      ∧ Line.event 0 (.bend none 15 64) = messageEvent 0x400FE0 ∧ Line.event 0 (.noteOn (some 1) 60 100) = messageEvent 0x643C91
      ∧ Line.event 0 (.cc none 1 127) = messageEvent 0x7F01B0 := by decide

/-! ### The message classes -/

/-- R62: NOTE_ON ch=1 from reset leaves the reset state; L2-M15: channel 0 is discarded when LISTEN_CH = 5. -/
theorem test_discard :
    send State.reset 0x643C91 = some State.reset
      ∧ send (State.boot 5 []) 0x643C90 = some (State.boot 5 []) := by decide
/-- L2-M11: a discarded message is never range-checked. -/
theorem test_discard_not_checked : (send State.reset 0xFF3C9F).map (·.fault) = some false := by decide
/-- L2-F1, L2-F3: FAULT and FAULT_WORD, and nothing else. -/
theorem test_invalid_data :
    (send State.reset 0x80B490) = some { State.reset with fault := true, faultWord := 0x80B490 }
      ∧ (send s60 0x0080E0) = some { s60 with fault := true, faultWord := 0x0080E0 } := by decide
/-- L2-F2, L2-F4, L2-F5: a later fault keeps the first word and touches nothing. -/
theorem test_second_fault_keeps_first_word :
    let s := { s60 with fault := true, faultWord := 0x0080E0 }
    send s 0x803CE0 = some s ∧ send s 0x00C880 = some s ∧ send s 0xFF40B0 = some s ∧ send s 0x80FF80 = some s
      ∧ send s 0x80FFB0 = some s ∧ send s 0x800090 = some s ∧ send s 0x80C080 = some s ∧ send s 0x800080 = some s := by
  decide
/-- L2-F7: messages after a fault are processed normally. -/
theorem test_message_after_fault :
    (send { State.reset with fault := true, faultWord := 0x00C890 } 0x644890).map (fun t => (t.stack, t.cur, t.faultWord))
      = some ([72], 72, 0x00C890) := by decide
/-- R64 worked example, and L2-S3: releasing a middle entry closes the gap. -/
theorem test_note_off :
    (send (engine [60, 64] 64 true false) 0x004080) = some (engine [60] 60 true false)
      ∧ (send (engine [60, 64, 67] 67 true false) 0x004080) = some (engine [60, 67] 67 true false) := by decide
/-- L1-3: the last release closes the gate and CUR stays; L1-7: under the pedal the voice stays. -/
theorem test_note_off_last :
    (send s60 0x003C80) = some (engine [] 60 false false)
      ∧ (send (engine [60] 60 true true) 0x003C80) = some (engine [] 60 true true) := by decide
/-- R66 worked example, and L2-M16: an absent note. -/
theorem test_note_on_v0 :
    (send s60 0x003C90) = some (engine [] 60 false false) ∧ send s60 0x003D90 = some s60 := by decide
/-- R52 worked example (L1-2): a re-press moves the note to the top; R65 worked example: the first press. -/
theorem test_note_on :
    (send (engine [60, 64, 67] 67 true false) 0x644090) = some (engine [60, 67, 64] 64 true false)
      ∧ (send State.reset 0x643C90) = some s60 := by decide
/-- L2-M14: a press on another listening channel. -/
theorem test_note_on_other_listen_channel :
    (send (State.boot 5 []) 0x643C95).map (fun t => (t.stack, t.gate)) = some ([60], true) := by decide
/-- R67 worked example; L1-4b: the pedal lift falls back to the note still held. -/
theorem test_sustain_lift :
    (send (engine [] 60 true true) 0x0040B0) = some (engine [] 60 false false)
      ∧ (send (engine [60] 64 true true) 0x0040B0) = some (engine [60] 60 true false) := by decide
/-- L2-C1 and L2-C2: 64 holds the pedal and opens no gate, 63 lifts it. -/
theorem test_sustain_threshold :
    (send State.reset 0x4040B0) = some (engine [] 64 false true)
      ∧ (send (engine [] 60 true true) 0x3F40B0) = some (engine [] 60 false false) := by decide
/-- L2-M1, L2-M2: other controllers, "all notes off" among them. -/
theorem test_cc_other : send s60 0x7F01B0 = some s60 ∧ send s60 0x007BB0 = some s60 := by decide
/-- R69 worked example, L2-C8 and L2-C9: only data2 is stored. -/
theorem test_pitch_wheel :
    (send State.reset 0x7F00E0).map (·.pw) = some 127 ∧ (send State.reset 0x4070E0) = some State.reset
      ∧ (send State.reset 0x007FE0).map (·.pw) = some 0 := by decide
/-- L2-M4 to L2-M9: ignored statuses, with data bytes out of range too. -/
theorem test_ignored :
    send s60 0x7F3CA0 = some s60 ∧ send s60 0x0005C0 = some s60 ∧ send s60 0x7FFFD0 = some s60
      ∧ send s60 0x000000 = some s60 ∧ send s60 0x3C4070 = some s60 ∧ send s60 0xFFFFF0 = some s60 := by decide

/-! ### Reset, the host's events, and the operations -/

/-- L2-R1: reset from a sounding, faulted state, on another listening channel. -/
theorem test_reset_transaction :
    (nextOf (step { s60 with pedal := true, pw := 0, fault := true, faultWord := 1, listenCh := 5, pending := [resetEvent] }))
      = some { State.reset with listenCh := 5 } := by decide
/-- R40 and 92 D9. -/
theorem test_refused_events :
    refusalOf (step { s60 with pending := [.overlapping .reset (.message 0x643C90)] }) = some .overlappingTransactions
      ∧ refusalOf (step { s60 with pending := [.driveListenCh 1] }) = some .listenChannelChanged := by decide
/-- 92 D3 and U1: a wider integer and a wrong number of bytes are refused at the interface. -/
theorem test_interface :
    (match offerWord 0x1000000 with | .error .notOneMessage => true | _ => false) = true
      ∧ (match offerBytes [0x90, 0x3C, 0x64] with | .ok e => e == messageEvent 0x643C90 | _ => false) = true
      ∧ (match offerBytes [0x90, 0x3C] with | .error .notOneMessage => true | _ => false) = true := by decide
/-- R54 worked example, from a state no run reaches. -/
theorem test_select : (select (engine [60, 72, 67] 48 false false)).cur = 67 := by decide
/-- R55 worked example. -/
theorem test_release_none :
    releaseNone (engine [] 60 true false) = engine [] 60 false false := by decide
/-- The first instruction after reset is the one withFetchWord places. -/
theorem test_fetch_word :
    (nextOf (step (State.reset.withFetchWord 24 0x0000E0))).map (·.pw) = some 0
      ∧ (nextOf (step (State.reset.withFetchWord 24 0x643C90))) = some s60 := by decide

/-! ### The outputs (44_signals.md, 95_test_vectors.md L2-P) -/

/-- L2-P4, L2-P5, L2-P10. -/
theorem test_pitch_num :
    pitchNum { State.reset with cur := 0, pw := 0 } = 0xF7C0 ∧ pitchNum { State.reset with cur := 127, pw := 127 } = 0x081F
      ∧ pitchNum { State.reset with cur := 0, pw := 127 } = 0xF83F := by decide
/-- L2-P12, R78 worked example. -/
theorem test_pitch_third :
    pitchV .binary64 s60 = .binary64 0xBFD5555555555555 ∧ pitchV .binary32 s60 = .binary32 0xBEAAAAAB
      ∧ pitchV .exact s60 = .exact (-1 / 3) := by decide +kernel
/-- L2-P6, L2-P7: the rounding of binary32 down and up. -/
theorem test_pitch_rounding :
    pitchV .binary32 { State.reset with cur := 72, pw := 32 } = .binary32 0x3F155555
      ∧ pitchV .binary32 { State.reset with pw := 65 } = .binary32 0x3B2AAAAB
      ∧ pitchV .binary64 { State.reset with cur := 72, pw := 32 } = .binary64 0x3FE2AAAAAAAAAAAB := by decide +kernel
/-- L1-9: the wheel at 127 gives 21/128, not 2/12. -/
theorem test_pitch_wheel_127 :
    pitchV .exact { State.reset with pw := 127 } = .exact (21 / 128)
      ∧ pitchV .binary64 { State.reset with pw := 127 } = .binary64 0x3FC5000000000000 := by decide +kernel
/-- L1-3: a tick of two messages, then one reading. -/
theorem test_tick :
    (match tick .binary64 [0x643C90, 0x003C80] State.reset with
      | .ok (t, o) => t == engine [] 60 false false && o.gateV == 0 && o.pitchNum == 0xFF80
      | .error _ => false) = true := by decide +kernel

/-! ### Witnesses: states and operands that meet the hypotheses of the statements -/

/-- A message waiting: StepRunsDecodedInstruction, StepIsProcessMessage. -/
theorem witness_message_waiting :
    { s60 with pending := [messageEvent 0x003C80, resetEvent] }.pending = messageEvent 0x003C80 :: [resetEvent] := by decide
/-- ResetTransactionRestoresConstruction. -/
theorem witness_reset_waiting : { s60 with pending := [resetEvent] }.pending = resetEvent :: [] := by decide
/-- IdleBlockHoldsState, TickRunsMessagesThenReadsOutputs, OtherChannelsAreInvisible, PortChangeTouchesNoRegister. -/
theorem witness_idle : s60.pending = [] := by decide
/-- ReadingOutputsWritesNothing. -/
theorem witness_reading_waiting : { s60 with pending := [.readSignals] }.pending = .readSignals :: [] := by decide
/-- ForbiddenHostEventsAreRefused, its three clauses. -/
theorem witness_forbidden_events :
    { s60 with pending := [.overlapping .reset .reset] }.pending = .overlapping .reset .reset :: []
      ∧ ({ s60 with pending := [.driveListenCh 15] }.pending = .driveListenCh 15 :: [] ∧ (15 : Nibble) ≠ s60.listenCh)
      ∧ { s60 with pending := [.driveListenCh 0] }.pending = .driveListenCh s60.listenCh :: [] := by decide
/-- EveryLegalRunCompletes. -/
theorem witness_legal_events :
    ∀ e ∈ { s60 with pending := [messageEvent 0x003C80, .readSignals] }.pending,
      (∃ t, e = .transaction t) ∨ e = .readSignals := by
  intro e he
  simp only [List.mem_cons, List.not_mem_nil, or_false] at he
  rcases he with rfl | rfl
  · exact .inl ⟨_, rfl⟩
  · exact .inr rfl
/-- DiscardHasNoEffect: words at both ends of the channel range, and an instruction. -/
theorem witness_discard :
    channelOf 0xFFFFFF ≠ (0 : Nibble).toNat ∧ channelOf 0x643C90 ≠ (15 : Nibble).toNat
      ∧ (classOf (.discardCh15 9 60 100) = .discard ∧ WellFormed s60.listenCh (.discardCh15 9 60 100) = true)
      ∧ classOf (.discardCh0 9 60 100) = .discard ∧ WellFormed (State.boot 5 []).listenCh (.discardCh0 9 60 100) = true := by
  decide
/-- InvalidDataRaisesInvalidArgument: 128 and 255, in data1 and in data2. -/
theorem witness_bad_data :
    (channelOf 0x008080 = (0 : Nibble).toNat ∧ BadData 0x008080) ∧ (channelOf 0xFF7FE5 = (5 : Nibble).toNat ∧ BadData 0xFF7FE5)
      ∧ faultingWord s60.listenCh (.invalidStatus8Data1 0 0) = some 0x008080
      ∧ faultingWord s60.listenCh (.invalidStatusEData2 127 127) = some 0xFF7FE0 := by decide
/-- FaultIsPrecise: a message with bad data waiting. -/
theorem witness_fault_precise :
    { s60 with pending := [messageEvent 0x80FF80] }.pending = messageEvent 0x80FF80 :: []
      ∧ channelOf 0x80FF80 = { s60 with pending := [messageEvent 0x80FF80] }.listenCh.toNat ∧ BadData 0x80FF80 := by decide
/-- NoteOffReleasesNote: data at both ends of its range. -/
theorem witness_note_off_word :
    channelOf 0x7F7F80 = (0 : Nibble).toNat ∧ statusOf 0x7F7F80 = 0x8 ∧ data1Of 0x7F7F80 ≤ 127 ∧ data2Of 0x7F7F80 ≤ 127
      ∧ statusOf 0x000080 = 0x8 := by decide
/-- NoteOnPressesNote: velocities 1 and 127. -/
theorem witness_note_on_word :
    channelOf 0x017F90 = (0 : Nibble).toNat ∧ statusOf 0x017F90 = 0x9 ∧ data1Of 0x017F90 ≤ 127 ∧ data2Of 0x017F90 ≤ 127
      ∧ data2Of 0x017F90 ≠ 0 ∧ (127 : Data7) ≠ 0 ∧ (1 : Data7) ≠ 0 := by decide
/-- NoteOnVelocityZeroReleasesNote. -/
theorem witness_note_on_v0_word :
    channelOf 0x007F90 = (0 : Nibble).toNat ∧ statusOf 0x007F90 = 0x9 ∧ data1Of 0x007F90 ≤ 127 ∧ data2Of 0x007F90 = 0 := by
  decide
/-- SustainSetsPedalAndReevaluates: 63 and 64 lie on the two sides of its condition. -/
theorem witness_sustain_word :
    channelOf 0x3F40B0 = (0 : Nibble).toNat ∧ statusOf 0x3F40B0 = 0xB ∧ data1Of 0x3F40B0 = 0x40 ∧ data2Of 0x3F40B0 ≤ 127
      ∧ ¬ 64 ≤ (63 : Data7).toNat ∧ 64 ≤ (64 : Data7).toNat := by decide
/-- OtherControllersHaveNoEffect: the controllers next to 0x40. -/
theorem witness_cc_other_word :
    channelOf 0x7F41B0 = (0 : Nibble).toNat ∧ statusOf 0x7F41B0 = 0xB ∧ data1Of 0x7F41B0 ≤ 127 ∧ data2Of 0x7F41B0 ≤ 127
      ∧ data1Of 0x7F41B0 ≠ 0x40 ∧ data1Of 0x7F3FB0 ≠ 0x40 ∧ (63 : Data7) ≠ 0x40 ∧ (65 : Data7) ≠ 0x40 := by decide
/-- PitchWheelStoresCoarseByte. -/
theorem witness_pitch_wheel_word :
    channelOf 0x7F7FE0 = (0 : Nibble).toNat ∧ statusOf 0x7F7FE0 = 0xE ∧ data1Of 0x7F7FE0 ≤ 127 ∧ data2Of 0x7F7FE0 ≤ 127 := by
  decide
/-- IgnoredHasNoEffect: each range of its statuses. -/
theorem witness_ignored_word :
    channelOf 0xFFFF70 = (0 : Nibble).toNat ∧ statusOf 0xFFFF70 ≤ 0x7 ∧ statusOf 0x0000A0 = 0xA ∧ statusOf 0x0000C0 = 0xC
      ∧ statusOf 0x0000D0 = 0xD ∧ statusOf 0x0000F0 = 0xF ∧ classOf (.ignoredStatus7 0 0) = .ignored
      ∧ classOf (.ignoredStatusF 0 0) = .ignored := by decide
/-- InstructionFrames: an instruction that answers, outside every class its clauses leave out. -/
theorem witness_frames :
    nextOf (exec (.ccOther 1 1) s60) = some s60 ∧ classOf (.ccOther 1 1) = .ccOther := by decide
/-- RegistersChangeOnlyByTheirTransactions: a step that changes the stack, CUR and GATE; ones that change PEDAL, PW and
FAULT. Its other premise holds, since what waits is a message. -/
theorem witness_registers_change :
    (send State.reset 0x643C90).map (fun t => (t.stack, t.cur, t.gate)) = some ([60], 60, true)
      ∧ (send State.reset 0x7F40B0).map (·.pedal) = some true ∧ (send State.reset 0x0000E0).map (·.pw) = some 0
      ∧ (send State.reset 0x00C890).map (fun t => (t.fault, t.faultWord)) = some (true, 0x00C890)
      ∧ messageEvent 0x643C90 ≠ resetEvent := by decide
/-- ListenChannelIsConstant: a step that answers. -/
theorem witness_step_answers : send s60 0x003C80 = some (engine [] 60 false false) := by decide
/-- DecodeOfEncode. -/
theorem witness_well_formed : WellFormed 0 (.noteOn 127 127) = true ∧ WellFormed 15 (.discardCh0 15 255 255) = true := by
  decide
/-- StepKeepsInvariant, StepKeepsStackDistinct, StackNeverOverflows, RepeatedPressIsOnePress (its first part),
SustainEqualsSetPedal, StackOperationProperties (its first part). -/
theorem witness_invariant :
    Inv (engine [60, 64] 64 true false) ∧ Inv (engine [] 60 true true) ∧ Inv State.reset
      ∧ send (engine [60, 64] 64 true false) 0x004080 = some s60 := by decide
/-- ReachableStatesMeetInvariants: a state reached by one step. -/
theorem witness_reachable : Reachable s60 := ⟨0, [messageEvent 0x643C90], 1, rfl⟩
/-- StackNeverOverflows: a note on the stack and one that is not. -/
theorem witness_stack_members : (60 : Note) ∈ s60.stack ∧ (61 : Note) ∉ s60.stack := by decide
/-- FaultIsStickyUntilReset: a faulted state and a step that is no reset. -/
theorem witness_fault_sticky :
    (send { s60 with fault := true } 0x803CE0).map (·.fault) = some true ∧ messageEvent 0x803CE0 ≠ resetEvent := by decide
/-- FaultIsRaisedByBadDataAlone: fault-free states, with a step that faults and one that does not. -/
theorem witness_fault_raised :
    s60.fault = false ∧ (send s60 0x803CE0).map (·.fault) = some true ∧ (send s60 0x003CE0).map (·.fault) = some false := by
  decide
/-- FaultDoesNotGateProcessing. -/
theorem witness_agree_but_fault :
    AgreeButFault s60 { s60 with fault := true, faultWord := 1 } ∧ send s60 0x003C80 = some (engine [] 60 false false) := by
  decide
/-- StackOperationProperties, its second part: a note that leaves the stack. -/
theorem witness_note_leaves :
    (60 : Note) ∈ s60.stack ∧ (send s60 0x003C80).map (·.stack) = some [] ∧ (60 : Note) ∉ ([] : List Note) := by decide
/-- SelectIsLastNotePriority, its three clauses. -/
theorem witness_select :
    (engine [60] 64 true true).pedal = true
      ∧ ((engine [60] 64 true false).pedal = false ∧ (engine [60] 64 true false).stack.getLast? = some 60)
      ∧ ((engine [] 64 true false).pedal = false ∧ (engine [] 64 true false).stack = []) := by decide
/-- ReleaseOfAbsentNoteIsNoOp. -/
theorem witness_absent_note : Inv s60 ∧ (61 : Note) ∉ s60.stack := by decide
/-- RepeatedPressIsOnePress, its second part. -/
theorem witness_top_pressed :
    InvDistinct s60 ∧ s60.gate = true ∧ s60.cur = 60 ∧ s60.stack.getLast? = some 60 := by decide
/-- HeldPedalSustainsVoice: under the pedal, a press changes CUR and a pedal-off changes GATE. -/
theorem witness_held_pedal :
    (engine [] 60 true true).pedal = true
      ∧ (send (engine [] 60 true true) 0x643E90).map (·.cur) = some 62
      ∧ (send (engine [] 60 true true) 0x0040B0).map (·.gate) = some false := by decide
/-- RepeatedReleasesClearStack: with the pedal up and with it held. -/
theorem witness_clear_stack :
    (engine [60, 64] 64 true false).pending = [] ∧ [64, 60].Perm (engine [60, 64] 64 true false).stack
      ∧ (engine [60, 64] 64 true false).pedal = false ∧ (engine [60, 64] 64 true true).pedal = true
      ∧ ((engine [] 64 false false).stack = [] → (engine [] 64 false false).gate = false) := by decide
/-- ArrayStackRefinesListStack: an array whose don't-care entries are not zero. -/
theorem witness_array_stack :
    let a : ArrayStack := ⟨Vector.ofFn (fun i => if i.val = 0 then 60 else 99), 1⟩
    a.len ≤ 128 ∧ a.live = s60.stack ∧ InvDistinct s60 ∧ 0 < a.len := by decide +kernel
/-- TickGroupingDoesNotMatter: a state with nothing waiting, and three ticks, one of them empty, that complete. -/
theorem witness_ticks :
    State.reset.pending = []
      ∧ (match ticks .exact [[0x643C90], [], [0x003C80]] State.reset with
          | .ok (t, readings) => t == engine [] 60 false false && readings.length == 3
          | .error _ => false) = true := by decide +kernel
/-- UnusedOperandsDoNotMatter: two velocities that are not zero. -/
theorem witness_velocities : (1 : Data7) ≠ 0 ∧ (127 : Data7) ≠ 0 := by decide
/-- SourceOperationsAreMessages: the premises of its clauses, with the pedal up and with it held. -/
theorem witness_source_operations :
    Inv s60 ∧ s60.pedal = false ∧ (63 : Data7) ≠ 0 ∧ (63 : Data7).toNat < 64
      ∧ Inv (engine [] 60 true true) ∧ (engine [] 60 true true).pedal = true := by decide
/-- OutOfRangeArgumentsAreRejected, the operations with one argument: both ends of the byte's upper half, and on either side of
the byte. -/
theorem witness_out_of_range_arguments :
    ((127 : Int) < 128 ∧ (128 : Int) < 256) ∧ ((127 : Int) < 255 ∧ (255 : Int) < 256) ∧ (-1 : Int) < 0
      ∧ (256 : Int) ≤ 256 := by decide
/-- OutOfRangeArgumentsAreRejected, processMessage: accepted channels at both ends of their range with data1 or data2 alone
out of range, and each field just below and just above its range. -/
theorem witness_out_of_range_fields :
    ((0 : Int) = (0 : Nibble).toNat ∧ (15 : Int) = (15 : Nibble).toNat ∧ (0 : Int) ≤ 127 ∧ (127 : Int) < 256
        ∧ (0 : Int) ≤ 255 ∧ (255 : Int) < 256 ∧ (127 : Int) < 255)
      ∧ (-1 : Int) < 0 ∧ (16 : Int) ≤ 16 ∧ (256 : Int) ≤ 256 := by decide
/-- R72: a field outside its width is refused, whichever it is. -/
theorem test_out_of_range_fields :
    ([(16, 8, 0, 0), (-1, 8, 0, 0), (0, 16, 0, 0), (0, 8, 256, 0), (0, 8, 0, 256), (0, 8, 0, -1)] :
        List (Int × Int × Int × Int)).all (fun (ch, st, d1, d2) =>
      match SourceOp.message 0 false 1 (.processMessage ch st d1 d2) with
      | .error r => r == .argumentOutOfRange
      | .ok _ => false) = true := by decide
/-- PitchVoltageIsNearestEven: both formats, a zero pitch, and finite bits. -/
theorem witness_pitch_voltage :
    (binary64 = binary64 ∨ binary64 = binary32) ∧ (binary32 = binary64 ∨ binary32 = binary32)
      ∧ pitchExact State.reset = 0 ∧ 0x3FF0000000000000 < 2 ^ binary64.width
      ∧ ieeeFinite binary64 0x3FF0000000000000 = true := by decide +kernel
/-- SemitoneAndOctaveSteps. -/
theorem witness_steps :
    (61 : Note).toNat = s60.cur.toNat + 1 ∧ (72 : Note).toNat = s60.cur.toNat + 12 := by decide

end Sys2Proof.Tests
end

section
/-! What SELECT leaves unchanged, as simp rules (RELEASE and CC_SUSTAIN come down to SELECT by release_eq and sustain_eq); what
an instruction does by its class; what every step and every run keeps. -/

namespace Sys2Proof.Machine

/-! ### SELECT, register by register -/

@[simp] theorem select_stack (s : State) : (select s).stack = s.stack := by
  obtain ⟨n, g, h⟩ := select_frame s
  rw [h]

@[simp] theorem select_pedal (s : State) : (select s).pedal = s.pedal := by
  obtain ⟨n, g, h⟩ := select_frame s
  rw [h]

@[simp] theorem select_pw (s : State) : (select s).pw = s.pw := by
  obtain ⟨n, g, h⟩ := select_frame s
  rw [h]

@[simp] theorem select_fault (s : State) : (select s).fault = s.fault := by
  obtain ⟨n, g, h⟩ := select_frame s
  rw [h]

@[simp] theorem select_faultWord (s : State) : (select s).faultWord = s.faultWord := by
  obtain ⟨n, g, h⟩ := select_frame s
  rw [h]

@[simp] theorem select_listenCh (s : State) : (select s).listenCh = s.listenCh := by
  obtain ⟨n, g, h⟩ := select_frame s
  rw [h]

@[simp] theorem select_pending (s : State) : (select s).pending = s.pending := by
  obtain ⟨n, g, h⟩ := select_frame s
  rw [h]

/-- SELECT never opens the gate (R54). -/
theorem gate_of_select_gate {s : State} (hg : (select s).gate = true) : s.gate = true := by
  obtain ⟨-, h⟩ | ⟨-, n, -, h⟩ | ⟨-, -, h⟩ := select_cases s
  · rwa [h] at hg
  · rwa [h] at hg
  · rw [h] at hg
    cases hg

/-! ### One instruction, by class -/

/-- Only an INVALID_DATA instruction has a faulting word (R63). -/
theorem classOf_of_faultingWord {c : Nibble} {i : Instr} {w : Msg} (h : faultingWord c i = some w) :
    classOf i = .invalidData := by
  cases i with
  | invalidStatus8Data1 | invalidStatus8Data2 | invalidStatus9Data1 | invalidStatus9Data2
  | invalidStatusBData1 | invalidStatusBData2 | invalidStatusEData1 | invalidStatusEData2 => rfl
  | _ => cases h

/-- Everything an instruction can do to the state, each update with the class it belongs to. -/
theorem exec_class_cases {i : Instr} {s t : State} (h : exec i s = .next t) :
    t = s
      ∨ (classOf i = .invalidData ∧ ∃ w, t = raiseInvalidArgument w s)
      ∨ (classOf i = .noteOn ∧ ∃ n, t = press n s)
      ∨ ((classOf i = .noteOff ∨ classOf i = .noteOnV0) ∧ ∃ n, t = release n s)
      ∨ (classOf i = .ccSustain ∧ ∃ held, t = releaseNone (setPedal held s))
      ∨ (classOf i = .pitchWheel ∧ ∃ m, t = setPitchWheel m s) := by
  obtain e | ⟨w, hw, e⟩ | ⟨n, v, rfl, e⟩ | ⟨n, hi, e⟩ | ⟨v, rfl, e⟩ | ⟨l, m, rfl, e⟩ := exec_cases i s
    <;> rw [e] at h <;> cases h
  · exact .inl rfl
  · exact .inr (.inl ⟨classOf_of_faultingWord hw, w, rfl⟩)
  · exact .inr (.inr (.inl ⟨rfl, n, rfl⟩))
  · refine .inr (.inr (.inr (.inl ⟨?_, n, rfl⟩)))
    obtain ⟨v, rfl⟩ | rfl := hi
    · exact .inl rfl
    · exact .inr rfl
  · exact .inr (.inr (.inr (.inr (.inl ⟨rfl, _, rfl⟩))))
  · exact .inr (.inr (.inr (.inr (.inr ⟨rfl, m, rfl⟩))))

/-! ### Predicates that every step keeps -/

/-- A predicate that does not look at the waiting events and that each of the block's updates keeps is kept by every step. -/
theorem step_preserves {P : State → Prop}
    (hpending : ∀ s rest, P s → P { s with pending := rest })
    (hraise : ∀ s w, P s → P (raiseInvalidArgument w s))
    (hpress : ∀ s n, P s → P (press n s))
    (hrelease : ∀ s n, P s → P (release n s))
    (hsustain : ∀ s held, P s → P (releaseNone (setPedal held s)))
    (hwheel : ∀ s m, P s → P (setPitchWheel m s))
    (hreset : ∀ s, P s → P (applyReset s))
    {s t : State} (hs : P s) (h : step s = .next t) : P t := by
  obtain ⟨-, rfl⟩ | ⟨e, rest, -, ⟨w, -, hx⟩ | ⟨-, rfl⟩ | ⟨-, rfl⟩ | ⟨-, rfl⟩⟩ := step_cases h
  · exact hs
  · have hs' := hpending s rest hs
    obtain rfl | ⟨-, w, rfl⟩ | ⟨-, n, rfl⟩ | ⟨-, n, rfl⟩ | ⟨-, held, rfl⟩ | ⟨-, m, rfl⟩ := exec_class_cases hx
    · exact hs'
    · exact hraise _ w hs'
    · exact hpress _ n hs'
    · exact hrelease _ n hs'
    · exact hsustain _ held hs'
    · exact hwheel _ m hs'
  · exact hreset _ (hpending s rest hs)
  · exact hpending s rest hs
  · exact hpending s rest hs

/-! ### Runs -/

theorem run_succ {s t : State} (h : step s = .next t) (k : Nat) :
    Sys2Proof.core.run (k + 1) s = Sys2Proof.core.run k t := by
  simp only [Host.Core.run, show Sys2Proof.core.step s = .next t from h]

/-- A run of `k + 1` steps that answers is a step that answers, and a run of `k` steps from there. -/
theorem step_of_run_succ {k : Nat} {s u : State} (h : Sys2Proof.core.run (k + 1) s = .next u) :
    ∃ t, step s = .next t ∧ Sys2Proof.core.run k t = .next u := by
  cases hs : step s with
  | next t => exact ⟨t, rfl, by rwa [run_succ hs] at h⟩
  | fault r => cases r
  | refused r =>
    simp only [Host.Core.run, show Sys2Proof.core.step s = .refused r from hs] at h
    cases h

/-- What every step keeps, every run keeps. -/
theorem run_preserves {P : State → Prop} (hstep : ∀ s t, P s → step s = .next t → P t) (k : Nat) {s t : State}
    (hs : P s) (h : Sys2Proof.core.run k s = .next t) : P t := by
  induction k generalizing s with
  | zero => cases h; exact hs
  | succ k ih =>
    obtain ⟨u, hu, hrun⟩ := step_of_run_succ h
    exact ih (hstep s u hs hu) hrun

/-- Draining a list of events is a step on the first and draining the others, where that step takes its event alone. -/
theorem drain_cons {s t : State} {e : HostEvent} {rest : List HostEvent} (hp : s.pending = e :: rest)
    (h : step s = .next t) (ht : t.pending = rest) : drain s = drain t := by
  rw [drain, drain, hp, ht, List.length_cons, run_succ h]

end Sys2Proof.Machine
end

section
/-! The invariants R22 to R25 and R84. -/

namespace Sys2Proof.Machine

/-- A silent block with an empty stack and no fault recorded meets the invariant (R96). -/
theorem inv_of_silent {s : State} (hstack : s.stack = []) (hgate : s.gate = false) (hword : s.faultWord = 0) : Inv s := by
  refine ⟨?_, ?_, fun _ _ => hgate, ?_, fun _ => hword⟩
  · simp [InvDistinct, hstack]
  · simp [InvGateStack, State.len, hstack]
  · simp [InvTop, State.len, hstack]

/-- SELECT establishes INV-IDLE and INV-TOP, whatever CUR and GATE were: it is last-note priority (R54). -/
theorem inv_select {s : State} (hdistinct : InvDistinct s) (hgate : InvGateStack s) (hword : InvFaultWord s) :
    Inv (select s) := by
  obtain ⟨hp, h⟩ | ⟨hp, n, htop, h⟩ | ⟨hp, hempty, h⟩ := select_cases s <;> rw [h]
  · exact ⟨hdistinct, hgate, by simp [InvIdle, hp], by simp [InvTop, hp], hword⟩
  · have hne : s.stack ≠ [] := by rintro e; simp [e] at htop
    exact ⟨hdistinct, hgate, by simp [InvIdle, State.len, hne], fun _ _ => htop, hword⟩
  · exact ⟨hdistinct, by simp [InvGateStack, State.len, hempty], fun _ _ => rfl,
      by simp [InvTop, State.len, hempty], hword⟩

/-- Taking a note out and putting it on top keeps the stack free of duplicates (R52). -/
theorem nodup_pressed {l : List Note} (h : l.Nodup) (n : Note) : (l.erase n ++ [n]).Nodup := by
  simpa using List.Nodup.concat h.not_mem_erase (h.erase n)

theorem invDistinct_press {s : State} (h : InvDistinct s) (n : Note) : InvDistinct (press n s) := by
  rw [press_eq]
  exact nodup_pressed h n

theorem invDistinct_release {s : State} (h : InvDistinct s) (n : Note) : InvDistinct (release n s) := by
  simpa [InvDistinct, release_eq] using h.erase n

theorem inv_press {s : State} (h : Inv s) (n : Note) : Inv (press n s) := by
  obtain ⟨hdistinct, -, -, -, hword⟩ := h
  refine ⟨invDistinct_press hdistinct n, ?_, ?_, ?_, ?_⟩ <;> rw [press_eq]
  · simp [InvGateStack]
  · simp [InvIdle, State.len]
  · simp [InvTop]
  · exact hword

theorem inv_release {s : State} (h : Inv s) (n : Note) : Inv (release n s) := by
  obtain ⟨hdistinct, hgate, -, -, hword⟩ := h
  rw [release_eq]
  refine inv_select (hdistinct.erase n) (fun hlen => hgate ?_) hword
  exact hlen.trans_le List.length_erase_le

theorem inv_sustain {s : State} (h : Inv s) (held : Bool) : Inv (releaseNone (setPedal held s)) := by
  obtain ⟨hdistinct, hgate, -, -, hword⟩ := h
  rw [sustain_eq]
  exact inv_select hdistinct hgate hword

theorem inv_raiseInvalidArgument {s : State} (h : Inv s) (w : Msg) : Inv (raiseInvalidArgument w s) := by
  obtain ⟨hdistinct, hgate, hidle, htop, -⟩ := h
  rw [raiseInvalidArgument_eq]
  exact ⟨hdistinct, hgate, hidle, htop, nofun⟩

/-- Settles O26: both are silent, with an empty stack and no fault. -/
theorem bootMeetsInvariant : Obligations.BootMeetsInvariant :=
  ⟨inv_of_silent rfl rfl rfl, fun _ _ => inv_of_silent rfl rfl rfl⟩

/-- Settles O27: each update of the block keeps the invariant; SELECT re-establishes its two clauses on CUR and GATE. -/
theorem stepKeepsInvariant : Obligations.StepKeepsInvariant := fun _ _ =>
  step_preserves (P := Inv)
    (hpending := fun _ _ h => h)
    (hraise := fun _ w h => inv_raiseInvalidArgument h w)
    (hpress := fun _ n h => inv_press h n)
    (hrelease := fun _ n h => inv_release h n)
    (hsustain := fun _ held h => inv_sustain h held)
    (hwheel := fun _ _ h => h)
    (hreset := fun _ _ => inv_of_silent rfl rfl rfl)

/-- Settles O28: only PRESS and RELEASE write other entries than reset's, and both begin with the removal of the note. -/
theorem stepKeepsStackDistinct : Obligations.StepKeepsStackDistinct := fun _ _ =>
  step_preserves (P := InvDistinct)
    (hpending := fun _ _ h => h)
    (hraise := fun s w h => by rw [raiseInvalidArgument_eq]; exact h)
    (hpress := fun _ n h => invDistinct_press h n)
    (hrelease := fun _ n h => invDistinct_release h n)
    (hsustain := fun s held h => by simpa [InvDistinct, sustain_eq] using h)
    (hwheel := fun _ _ h => h)
    (hreset := fun _ _ => List.nodup_nil)

/-- Every reachable state meets the invariant: boot meets it and every step keeps it. -/
theorem inv_of_reachable {s : State} (h : Reachable s) : Inv s := by
  obtain ⟨c, events, k, hrun⟩ := h
  exact run_preserves stepKeepsInvariant k (bootMeetsInvariant.2 c events) hrun

/-- Settles O29: the invariant of O27 without its clause on FAULT_WORD. -/
theorem reachableStatesMeetInvariants : Obligations.ReachableStatesMeetInvariants := fun _ h => by
  obtain ⟨hdistinct, hgate, hidle, htop, -⟩ := inv_of_reachable h
  exact ⟨hdistinct, hgate, hidle, htop⟩

/-- There are 128 notes, so a list with no note twice has at most 128 entries (R17). -/
theorem length_le_of_nodup {l : List Note} (h : l.Nodup) : l.length ≤ 128 := by
  have hcard : Fintype.card Note = 128 := (Fintype.card_congr BitVec.equivFin.toEquiv).trans (Fintype.card_fin _)
  exact hcard ▸ h.length_le_card

/-- A list with no note twice that lacks a note has at most 127 entries (R17). -/
theorem length_le_of_not_mem {l : List Note} (h : l.Nodup) {n : Note} (hn : n ∉ l) : l.length ≤ 127 := by
  have := length_le_of_nodup (List.nodup_cons.mpr ⟨hn, h⟩)
  rw [List.length_cons] at this
  omega

theorem press_len_of_mem {s : State} {n : Note} (h : n ∈ s.stack) : (press n s).len = s.len := by
  have := List.length_pos_of_mem h
  simp only [press_eq, State.len, List.length_append, List.length_erase_of_mem h, List.length_singleton]
  omega

theorem press_len_of_not_mem {s : State} {n : Note} (h : n ∉ s.stack) : (press n s).len = s.len + 1 := by
  simp [press_eq, State.len, List.erase_of_not_mem h]

/-- Settles O30: distinct notes are at most 128, and a note that is absent leaves one place at least. -/
theorem stackNeverOverflows : Obligations.StackNeverOverflows := fun _ hdistinct =>
  ⟨length_le_of_nodup hdistinct, fun _ => ⟨press_len_of_mem, fun hn =>
    ⟨press_len_of_not_mem hn, length_le_of_not_mem hdistinct hn⟩⟩⟩

end Sys2Proof.Machine
end

section
/-! What each class of instruction leaves unchanged (R10), register by register, and the class of a word as the decoder sees
it (R45). -/

namespace Sys2Proof.Machine

section Frames

variable {i : Instr} {s t : State} (h : exec i s = .next t)
include h

theorem exec_keeps_stack (hoff : classOf i ≠ .noteOff) (hon : classOf i ≠ .noteOn) (hv0 : classOf i ≠ .noteOnV0) :
    t.stack = s.stack := by
  obtain rfl | ⟨-, w, rfl⟩ | ⟨hc, -⟩ | ⟨hc, -⟩ | ⟨-, held, rfl⟩ | ⟨-, m, rfl⟩ := exec_class_cases h
  · rfl
  · simp [raiseInvalidArgument_eq]
  · exact absurd hc hon
  · exact hc.elim (absurd · hoff) (absurd · hv0)
  · simp [sustain_eq]
  · rfl

theorem exec_keeps_cur_gate (hoff : classOf i ≠ .noteOff) (hon : classOf i ≠ .noteOn) (hv0 : classOf i ≠ .noteOnV0)
    (hcc : classOf i ≠ .ccSustain) : t.cur = s.cur ∧ t.gate = s.gate := by
  obtain rfl | ⟨-, w, rfl⟩ | ⟨hc, -⟩ | ⟨hc, -⟩ | ⟨hc, -⟩ | ⟨-, m, rfl⟩ := exec_class_cases h
  · exact ⟨rfl, rfl⟩
  · simp [raiseInvalidArgument_eq]
  · exact absurd hc hon
  · exact hc.elim (absurd · hoff) (absurd · hv0)
  · exact absurd hc hcc
  · exact ⟨rfl, rfl⟩

/-- The gate opens by a NOTE_ON alone (R13). -/
theorem exec_keeps_gate_closed (hon : classOf i ≠ .noteOn) (ht : t.gate = true) : s.gate = true := by
  obtain rfl | ⟨-, w, rfl⟩ | ⟨hc, -⟩ | ⟨-, n, rfl⟩ | ⟨-, held, rfl⟩ | ⟨-, m, rfl⟩ := exec_class_cases h
  · exact ht
  · simpa [raiseInvalidArgument_eq] using ht
  · exact absurd hc hon
  · rw [release_eq] at ht
    exact gate_of_select_gate (s := { s with stack := s.stack.erase n }) ht
  · rw [sustain_eq] at ht
    exact gate_of_select_gate (s := { s with pedal := held }) ht
  · exact ht

theorem exec_keeps_pedal (hcc : classOf i ≠ .ccSustain) : t.pedal = s.pedal := by
  obtain rfl | ⟨-, w, rfl⟩ | ⟨-, n, rfl⟩ | ⟨-, n, rfl⟩ | ⟨hc, -⟩ | ⟨-, m, rfl⟩ := exec_class_cases h
  · rfl
  · simp [raiseInvalidArgument_eq]
  · simp [press_eq]
  · simp [release_eq]
  · exact absurd hc hcc
  · rfl

theorem exec_keeps_pw (hpw : classOf i ≠ .pitchWheel) : t.pw = s.pw := by
  obtain rfl | ⟨-, w, rfl⟩ | ⟨-, n, rfl⟩ | ⟨-, n, rfl⟩ | ⟨-, held, rfl⟩ | ⟨hc, -⟩ := exec_class_cases h
  · rfl
  · simp [raiseInvalidArgument_eq]
  · simp [press_eq]
  · simp [release_eq]
  · simp [sustain_eq]
  · exact absurd hc hpw

theorem exec_keeps_fault (hbad : classOf i ≠ .invalidData) : t.fault = s.fault ∧ t.faultWord = s.faultWord := by
  obtain rfl | ⟨hc, -⟩ | ⟨-, n, rfl⟩ | ⟨-, n, rfl⟩ | ⟨-, held, rfl⟩ | ⟨-, m, rfl⟩ := exec_class_cases h
  · exact ⟨rfl, rfl⟩
  · exact absurd hc hbad
  · simp [press_eq]
  · simp [release_eq]
  · simp [sustain_eq]
  · exact ⟨rfl, rfl⟩

theorem exec_keeps_listenCh_pending : t.listenCh = s.listenCh ∧ t.pending = s.pending := by
  obtain rfl | ⟨-, w, rfl⟩ | ⟨-, n, rfl⟩ | ⟨-, n, rfl⟩ | ⟨-, held, rfl⟩ | ⟨-, m, rfl⟩ := exec_class_cases h
  · exact ⟨rfl, rfl⟩
  · simp [raiseInvalidArgument_eq]
  · simp [press_eq]
  · simp [release_eq]
  · simp [sustain_eq]
  · exact ⟨rfl, rfl⟩

end Frames

/-- Settles O17: one frame lemma per register. -/
theorem instructionFrames : Obligations.InstructionFrames := fun _ _ _ h =>
  ⟨exec_keeps_stack h, exec_keeps_cur_gate h, exec_keeps_pedal h, exec_keeps_pw h, exec_keeps_fault h,
    exec_keeps_listenCh_pending h⟩

/-- Settles O19: every update of the block leaves LISTEN_CH as it was, and so does reset (R96). -/
theorem listenChannelIsConstant : Obligations.ListenChannelIsConstant := fun s _ =>
  step_preserves (P := fun u => u.listenCh = s.listenCh)
    (hpending := fun _ _ h => h)
    (hraise := fun _ _ h => by simpa [raiseInvalidArgument_eq] using h)
    (hpress := fun _ _ h => by simpa [press_eq] using h)
    (hrelease := fun _ _ h => by simpa [release_eq] using h)
    (hsustain := fun _ _ h => by simpa [sustain_eq] using h)
    (hwheel := fun _ _ h => h)
    (hreset := fun _ h => h) rfl

/-! ### The fields of a word as numbers (R42, R43) -/

theorem channelOf_eq (w : Msg) : channelOf w = (w.extractLsb' 0 4).toNat := by
  simp [channelOf, BitVec.extractLsb'_toNat]

theorem statusOf_eq (w : Msg) : statusOf w = (w.extractLsb' 4 4).toNat := by
  simp [statusOf, BitVec.extractLsb'_toNat, Nat.shiftRight_eq_div_pow]

theorem data1Of_eq (w : Msg) : data1Of w = (w.extractLsb' 8 8).toNat := by
  simp [data1Of, BitVec.extractLsb'_toNat, Nat.shiftRight_eq_div_pow]

theorem data2Of_eq (w : Msg) : data2Of w = (w.extractLsb' 16 8).toNat := by
  simp [data2Of, BitVec.extractLsb'_toNat, Nat.shiftRight_eq_div_pow]

@[simp] theorem channelOf_packMsg (d2 d1 : Byte) (st ch : Nibble) : channelOf (packMsg d2 d1 st ch) = ch.toNat := by
  rw [channelOf_eq, packMsg_channel]

@[simp] theorem statusOf_packMsg (d2 d1 : Byte) (st ch : Nibble) : statusOf (packMsg d2 d1 st ch) = st.toNat := by
  rw [statusOf_eq, packMsg_status]

@[simp] theorem data1Of_packMsg (d2 d1 : Byte) (st ch : Nibble) : data1Of (packMsg d2 d1 st ch) = d1.toNat := by
  rw [data1Of_eq, packMsg_data1]

@[simp] theorem data2Of_packMsg (d2 d1 : Byte) (st ch : Nibble) : data2Of (packMsg d2 d1 st ch) = d2.toNat := by
  rw [data2Of_eq, packMsg_data2]

/-- A byte is out of range where its top bit is set (R43). -/
theorem msb_iff_lt (b : Byte) : b.msb = true ↔ 127 < b.toNat := by
  rw [BitVec.msb_eq_decide, decide_eq_true_iff]
  omega

/-- The low bits of a byte in range are the whole byte (R43, R44). -/
theorem low7_toNat {b : Byte} (h : ¬ 127 < b.toNat) : (low7 b).toNat = b.toNat := by
  simp only [low7, BitVec.extractLsb'_toNat, Nat.shiftRight_zero]
  omega

/-- The operand of a byte in range is a given value where the byte is. -/
theorem low7_eq_iff {b : Byte} (h : ¬ 127 < b.toNat) (v : Data7) : low7 b = v ↔ b.toNat = v.toNat := by
  rw [← BitVec.toNat_inj, low7_toNat h]

theorem rangeChecked_iff (st : Nibble) :
    rangeChecked st = true ↔ st.toNat = 0x8 ∨ st.toNat = 0x9 ∨ st.toNat = 0xB ∨ st.toNat = 0xE := by
  revert st
  decide

/-- Bad data, of the fields of a word (R63). -/
theorem badData_packMsg (d2 d1 : Byte) (st ch : Nibble) :
    BadData (packMsg d2 d1 st ch) ↔ rangeChecked st = true ∧ (d1.msb = true ∨ d2.msb = true) := by
  simp only [BadData, rangeChecked_iff, msb_iff_lt, statusOf_packMsg, data1Of_packMsg, data2Of_packMsg]

/-! ### The class of what a word decodes to (R45) -/

theorem classOf_discardInstr (ch st : Nibble) (d1 d2 : Byte) : classOf (discardInstr ch st d1 d2) = .discard := by
  unfold discardInstr
  split <;> rfl

theorem classOf_invalidInstr (st : Nibble) (d1 d2 : Byte) : classOf (invalidInstr st d1 d2) = .invalidData := by
  unfold invalidInstr
  split
  · unfold invalidData1Instr
    split <;> rfl
  · unfold invalidData2Instr
    split <;> rfl

/-- Rows 3 to 9 of the class table, for the accepted words that rows 1 and 2 leave (R45). -/
theorem classOf_classInstr {d2 d1 : Byte} {st ch : Nibble} (h : ¬ BadData (packMsg d2 d1 st ch)) :
    classOf (classInstr st d1 d2) = classOfWord ch (packMsg d2 d1 st ch) := by
  rw [classOfWord, if_neg (not_not.mpr (channelOf_packMsg d2 d1 st ch)), if_neg h]
  simp only [statusOf_packMsg, data1Of_packMsg, data2Of_packMsg]
  rw [badData_packMsg, rangeChecked_iff, msb_iff_lt, msb_iff_lt] at h
  unfold classInstr
  split
  -- status 0x9: the velocity decides
  case h_10 hst =>
    have hd2 := low7_eq_iff (b := d2) (by omega) 0
    by_cases hv : d2.toNat = 0 <;> simp_all [classOf]
  -- status 0xB: the controller decides
  case h_12 hst =>
    have hd1 := low7_eq_iff (b := d1) (by omega) Config.sustainCc
    by_cases hk : d1.toNat = 64 <;> simp_all [classOf, Config.sustainCc]
  -- status 0xF: no row before the last has it
  case h_16 => simp_all [classOf]
  all_goals simp [*, classOf]

/-- The decoder takes the first row of the class table that matches (R45). -/
theorem classOf_decode (c : Nibble) (w : Msg) : classOf (decode c w) = classOfWord c w := by
  rw [← packMsg_fields w, decode_packMsg]
  generalize w.extractLsb' 16 8 = d2, w.extractLsb' 8 8 = d1, w.extractLsb' 4 4 = st, w.extractLsb' 0 4 = ch
  split
  · next hch =>
    subst hch
    split
    · next hbad =>
      rw [← badData_packMsg (ch := ch)] at hbad
      rw [classOf_invalidInstr, classOfWord, if_neg (not_not.mpr (channelOf_packMsg d2 d1 st ch)), if_pos hbad]
    · next hgood =>
      rw [← badData_packMsg (ch := ch)] at hgood
      exact classOf_classInstr hgood
  · next hch =>
    rw [classOf_discardInstr, classOfWord, if_pos]
    rwa [channelOf_packMsg, Ne, BitVec.toNat_inj]

/-! ### Who wrote a register that changed -/

/-- A step that is no reset either takes at most an event that writes no register, or runs a message. -/
theorem step_cases_of_no_reset {s t : State} (h : step s = .next t) (hr : ∀ rest, s.pending ≠ resetEvent :: rest) :
    (∃ rest, t = { s with pending := rest })
      ∨ ∃ w rest, s.pending = messageEvent w :: rest
          ∧ exec (decode s.listenCh w) { s with pending := rest } = .next t := by
  obtain ⟨-, rfl⟩ | ⟨e, rest, hp, ⟨w, rfl, hx⟩ | ⟨rfl, -⟩ | ⟨-, rfl⟩ | ⟨-, rfl⟩⟩ := step_cases h
  · exact .inl ⟨t.pending, rfl⟩
  · exact .inr ⟨w, rest, hp, hx⟩
  · exact absurd hp (hr rest)
  · exact .inl ⟨rest, rfl⟩
  · exact .inl ⟨rest, rfl⟩

/-- Settles O18: the step ran a message, and the frame of every class that is not named keeps the register. -/
theorem registersChangeOnlyByTheirTransactions : Obligations.RegistersChangeOnlyByTheirTransactions := by
  intro s t h hr
  obtain ⟨rest, rfl⟩ | ⟨w, rest, hp, hx⟩ := step_cases_of_no_reset h hr
  · simp +contextual
  · obtain ⟨hstack, hcurGate, hpedal, hpw, hfault, -⟩ := instructionFrames _ _ _ hx
    refine ⟨fun hne => ⟨w, rest, hp, ?_⟩, fun hne => ⟨w, rest, hp, ?_⟩, fun hclosed hopen => ⟨w, rest, hp, ?_⟩,
      fun hne => ⟨w, rest, hp, ?_⟩, fun hne => ⟨w, rest, hp, ?_⟩, fun hne => ⟨w, rest, hp, ?_⟩⟩
      <;> rw [← classOf_decode] <;> by_contra hc
    · simp only [List.mem_cons, List.not_mem_nil, or_false, not_or] at hc
      obtain ⟨hoff, hon, hv0⟩ := hc
      exact hne (hstack hoff hon hv0)
    · simp only [List.mem_cons, List.not_mem_nil, or_false, not_or] at hc
      obtain ⟨hoff, hon, hv0, hcc⟩ := hc
      obtain ⟨hcur, hgate⟩ := hcurGate hoff hon hv0 hcc
      exact hne.elim (· hcur) (· hgate)
    · have := exec_keeps_gate_closed hx hc hopen
      exact Bool.false_ne_true (hclosed.symm.trans this)
    · exact hne (hpedal hc)
    · exact hne (hpw hc)
    · obtain ⟨hflag, hword⟩ := hfault hc
      exact hne.elim (· hflag) (· hword)

end Sys2Proof.Machine
end

section
/-! Runs over the host's events: releasing every entry of the stack, and a port change. -/

namespace Sys2Proof.Machine

/-- The step on a waiting NOTE_OFF of the listening channel is RELEASE (R64). -/
theorem step_noteOff {s : State} {n : Note} {v : Data7} {rest : List HostEvent}
    (h : s.pending = messageEvent (encode s.listenCh (.noteOff n v)) :: rest) :
    step s = .next (release n { s with pending := rest }) := by
  rw [step_cons h]
  show exec (decode s.listenCh (encode s.listenCh (.noteOff n v))) _ = _
  rw [Laws.RoundTrip.noteOff n v s.listenCh rfl]
  rfl

/-- RELEASE establishes INV-IDLE, whatever GATE was (R54 case 3). -/
theorem invIdle_release (n : Note) (s : State) : InvIdle (release n s) := by
  intro hp hlen
  have hempty : s.stack.erase n = [] := by simpa [State.len, release_eq] using hlen
  rw [release_eq, select_empty (by simpa [release_eq] using hp) hempty]

/-- While the pedal is held RELEASE writes the stack alone (R54 case 1). -/
theorem release_held {s : State} (hp : s.pedal = true) (n : Note) :
    release n s = { s with stack := s.stack.erase n } := by
  rw [release_eq]
  exact select_held (s := { s with stack := s.stack.erase n }) hp

/-- One NOTE_OFF of each entry waiting, in any order: they are all taken, and leave the stack empty (R19). -/
theorem drain_noteOffs_clears (order : List Note) (s : State)
    (hp : s.pending = order.map fun n => messageEvent (encode s.listenCh (.noteOff n 0)))
    (hperm : order.Perm s.stack) :
    ∃ t, drain s = .next t
      ∧ t.stack = []
      ∧ (s.pedal = false → (s.stack = [] → s.gate = false) → t.gate = false)
      ∧ (s.pedal = true → t.gate = s.gate ∧ t.cur = s.cur) := by
  induction order generalizing s with
  | nil =>
    have hstack : s.stack = [] := hperm.nil_eq.symm
    exact ⟨s, drain_idle hp, hstack, fun _ hgate => hgate hstack, fun _ => ⟨rfl, rfl⟩⟩
  | cons n order ih =>
    obtain ⟨-, hperm'⟩ := List.cons_perm_iff_perm_erase.mp hperm
    set u := release n { s with pending := order.map fun n => messageEvent (encode s.listenCh (.noteOff n 0)) } with hu
    obtain ⟨t, hdrain, hempty, hup, hheld⟩ := ih u (by simp [hu, release_eq]) (by simpa [hu, release_eq] using hperm')
    refine ⟨t, ?_, hempty, fun hpedal _ => hup ?_ fun hnil => ?_, fun hpedal => ?_⟩
    · rw [drain_cons hp (step_noteOff hp) (by simp [release_eq]), hdrain]
    · simpa [hu, release_eq] using hpedal
    · exact invIdle_release _ _ (by simpa [release_eq] using hpedal) (List.length_eq_zero_iff.mpr hnil)
    · simpa [hu, release_held, hpedal] using hheld

/-- Settles O41: by induction on the order of the note-offs, each of which takes its own note out. -/
theorem repeatedReleasesClearStack : Obligations.RepeatedReleasesClearStack := fun s order hp hperm =>
  drain_noteOffs_clears order (deliver _ s) (by simp [hp]) hperm

/-- Settles O50: a port change delivers nothing, or the one reset. -/
theorem portChangeTouchesNoRegister : Obligations.PortChangeTouchesNoRegister := fun s hp => by
  constructor
  · show drain (deliver [] s) = _
    rw [deliver_nil, drain_idle hp]
  · have hwait : (deliver (portChangeEvents true) s).pending = [resetEvent] := by simp [hp, portChangeEvents]
    rw [drain_cons hwait (step_cons hwait) rfl, drain_idle rfl, applyReset_eq]
    rfl

end Sys2Proof.Machine
end

section
/-! The note stack as the array of R51 and as the list of its live entries (R18). -/

namespace Sys2Proof.Machine

theorem ArrayStack.getElem?_live (a : ArrayStack) (j : Nat) :
    a.live[j]? = if j < a.len then a.stk[j]? else none := by
  rw [ArrayStack.live, List.getElem?_take, Vector.getElem?_toList]

theorem ArrayStack.length_live {a : ArrayStack} (h : a.len ≤ 128) : a.live.length = a.len := by
  simpa [ArrayStack.live] using h

/-- A live entry is the entry of the array (R16). -/
theorem ArrayStack.getElem_live (a : ArrayStack) {j : Nat} (hj : j < a.live.length) : a.live[j] = a.entry j := by
  have h := a.getElem?_live j
  rw [List.getElem?_eq_getElem hj] at h
  split at h
  · rw [ArrayStack.entry, ← h]
    rfl
  · cases h

/-- StkFind on the array and on the list find the same index (R51). -/
theorem ArrayStack.find_eq {a : ArrayStack} (h : a.len ≤ 128) (n : Note) :
    a.find n = a.live.findIdx? (· == n) := by
  refine Option.ext fun i => ?_
  simp only [ArrayStack.find, List.find?_range_eq_some, List.findIdx?_eq_some_iff_getElem, ArrayStack.getElem_live,
    ArrayStack.length_live h, List.mem_range]
  grind

/-- The loop of StkRemoveAt: `k` entries from `i` on each take their upper neighbour's old value, since the loop goes upwards
and reads only above what it has written (R51). -/
theorem getElem?_shiftDown (stk : Vector Note 128) (i k : Nat) (hk : i + k < 128) (j : Nat) :
    ((List.range' i k).foldl (fun stk j => stk.setIfInBounds j (stk[j + 1]?.getD 0)) stk)[j]?
      = if i ≤ j ∧ j < i + k then stk[j + 1]? else stk[j]? := by
  induction k generalizing j with
  | zero => simp [show ¬ (i ≤ j ∧ j < i) by omega]
  | succ k ih =>
    rw [List.range'_1_concat, List.foldl_append, List.foldl_cons, List.foldl_nil, Vector.getElem?_setIfInBounds,
      ih (by omega), ih (by omega), if_neg (by omega : ¬ (i ≤ i + k + 1 ∧ i + k + 1 < i + k))]
    by_cases hj : i + k = j
    · subst hj
      simp [show i + k < 128 by omega, show i + k + 1 < 128 by omega]
    · have hlt : j < i + (k + 1) ↔ j < i + k := by omega
      simp only [hj, hlt, if_false]

/-- StkRemoveAt on the array deletes that entry from the live ones (R51). -/
theorem ArrayStack.live_removeAt {a : ArrayStack} (h : a.len ≤ 128) {i : Nat} (hi : i < a.len) :
    (a.removeAt i).live = a.live.eraseIdx i := by
  refine List.ext_getElem? fun j => ?_
  rw [List.getElem?_eraseIdx, ArrayStack.getElem?_live, ArrayStack.getElem?_live, ArrayStack.getElem?_live,
    ArrayStack.removeAt, getElem?_shiftDown _ _ _ (by omega)]
  grind

/-- StkAppend on an array that is not full puts the note above the live entries (R51). -/
theorem ArrayStack.live_append {a : ArrayStack} (h : a.len < 128) (n : Note) : (a.append n).live = a.live ++ [n] := by
  refine List.ext_getElem? fun j => ?_
  rw [List.getElem?_append, ArrayStack.length_live h.le, ArrayStack.getElem?_live, ArrayStack.getElem?_live,
    ArrayStack.append, Vector.getElem?_setIfInBounds]
  grind

/-- The removal step on the array is the removal of the note from the live entries (R52, R53). -/
theorem ArrayStack.live_remove {a : ArrayStack} (h : a.len ≤ 128) (n : Note) : (a.remove n).live = a.live.erase n := by
  rw [← eraseIdx_of_find, ← ArrayStack.find_eq h, ArrayStack.remove]
  cases hf : a.find n with
  | none => rfl
  | some i =>
    rw [ArrayStack.find, List.find?_range_eq_some] at hf
    exact ArrayStack.live_removeAt h (List.mem_range.mp hf.2.1)

theorem ArrayStack.len_remove_le (a : ArrayStack) (n : Note) : (a.remove n).len ≤ a.len := by
  rw [ArrayStack.remove]
  split
  · exact Nat.sub_le _ _
  · exact Nat.le_refl _

/-- The top of the array is the last live entry (R51). -/
theorem ArrayStack.getLast?_live {a : ArrayStack} (h : a.len ≤ 128) (hpos : 0 < a.len) :
    a.live.getLast? = some a.top := by
  have hlast : a.len - 1 < a.live.length := by rw [ArrayStack.length_live h]; omega
  rw [List.getLast?_eq_getElem?, ArrayStack.length_live h, List.getElem?_eq_getElem hlast, ArrayStack.getElem_live,
    ArrayStack.top]

/-- Settles O43: the removal leaves room for one more entry, since the stack is free of duplicates, and then each primitive's
loop does to the live entries what the list operation does. -/
theorem arrayStackRefinesListStack : Obligations.ArrayStackRefinesListStack := by
  intro a s n hlen hlive hdistinct
  have hremove : (a.remove n).live = s.stack.erase n := by rw [ArrayStack.live_remove hlen, hlive]
  have hlen' : (a.remove n).len = (s.stack.erase n).length := by
    rw [← hremove, ArrayStack.length_live ((a.len_remove_le n).trans hlen)]
  have hroom : (a.remove n).len < 128 := by
    have := length_le_of_not_mem (hdistinct.erase n) hdistinct.not_mem_erase
    omega
  refine ⟨?_, ?_, hroom, ?_, ?_, fun hpos => ?_⟩
  · rw [ArrayStack.live_append hroom, hremove, press_eq]
  · simp [ArrayStack.append, State.len, press_eq, hlen']
  · simp [hremove, release_eq]
  · simp [hlen', State.len, release_eq]
  · rw [← hlive, ArrayStack.getLast?_live hlen hpos]

end Sys2Proof.Machine
end

section
/-! A step on a waiting message: it runs the decoded instruction, and that is PROCESS_MESSAGE as R61 writes it. -/

namespace Sys2Proof.Machine

/-- Settles O1: the case of a waiting message in the case split on the event. -/
theorem stepRunsDecodedInstruction : Obligations.StepRunsDecodedInstruction := fun _ _ _ hp => step_cons hp

/-- Settles O6: the step refuses the two events, and a held drive of LISTEN_CH is only taken. -/
theorem forbiddenHostEventsAreRefused : Obligations.ForbiddenHostEventsAreRefused := by
  intro s rest
  refine ⟨fun _ _ hp => step_cons hp, fun c hp hc => ?_, fun hp => ?_⟩
  · rw [step_cons hp]
    exact if_neg hc
  · rw [step_cons hp]
    exact if_pos rfl

/-! ### The meaning of each table of the decoder -/

/-- A message of another channel has no effect (R62). -/
theorem exec_discardInstr (ch st : Nibble) (d1 d2 : Byte) (s : State) : exec (discardInstr ch st d1 d2) s = .next s := by
  unfold discardInstr
  split <;> rfl

/-- The range-checked statuses as nibbles (R43). -/
theorem rangeChecked_cases {st : Nibble} (h : rangeChecked st = true) : st = 0x8 ∨ st = 0x9 ∨ st = 0xB ∨ st = 0xE := by
  simpa [rangeChecked, or_assoc] using h

theorem exec_invalidData1Instr {st : Nibble} (h : rangeChecked st = true) (low1 : Data7) (d2 : Byte) (s : State) :
    exec (invalidData1Instr st low1 d2) s = .next (raiseInvalidArgument (badData1Word st low1 d2 s) s) := by
  obtain rfl | rfl | rfl | rfl := rangeChecked_cases h <;> rfl

theorem exec_invalidData2Instr {st : Nibble} (h : rangeChecked st = true) (low1 low2 : Data7) (s : State) :
    exec (invalidData2Instr st low1 low2) s = .next (raiseInvalidArgument (badData2Word st low1 low2 s) s) := by
  obtain rfl | rfl | rfl | rfl := rangeChecked_cases h <;> rfl

/-- A byte out of range is its low bits under a set top bit (R43). -/
theorem badByteOf_low7 {b : Byte} (h : b.msb = true) : badByteOf (low7 b) = b := by
  simpa [h] using byteOf_low7 b

/-- A byte in range is its low bits under a clear top bit (R43). -/
theorem byteOf_low7_of_msb {b : Byte} (h : ¬ b.msb = true) : byteOf (low7 b) = b := by
  simpa [h] using byteOf_low7 b

/-- An INVALID_DATA message records the word it came in, whichever of its data bytes is bad (R63, R82). -/
theorem exec_invalidInstr {st : Nibble} {d1 d2 : Byte} (h : rangeChecked st = true)
    (hd : d1.msb = true ∨ d2.msb = true) (s : State) :
    exec (invalidInstr st d1 d2) s = .next (raiseInvalidArgument (packMsg d2 d1 st s.listenCh) s) := by
  unfold invalidInstr
  split
  · next h1 => rw [exec_invalidData1Instr h, badData1Word, badByteOf_low7 h1]
  · next h1 =>
    rw [exec_invalidData2Instr h, badData2Word, byteOf_low7_of_msb h1, badByteOf_low7 (hd.resolve_left h1)]

/-- The effect of an accepted message that needs no rejection, by its status (R61 from its status dispatch on). -/
theorem exec_classInstr (st : Nibble) (d1 d2 : Byte) (s : State) :
    exec (classInstr st d1 d2) s = .next
      (if st.toNat = 0x8 then release (low7 d1) s
      else if st.toNat = 0x9 then (if low7 d2 ≠ 0 then press (low7 d1) s else release (low7 d1) s)
      else if st.toNat = 0xB then
        (if low7 d1 = Config.sustainCc then releaseNone (setPedal (pedalHeld (low7 d2)) s) else s)
      else if st.toNat = 0xE then setPitchWheel (low7 d2) s
      else s) := by
  unfold classInstr
  split
  -- status 0x9: the velocity decides
  case h_10 hst =>
    rw [hst]
    by_cases hv : low7 d2 = 0
    · rw [if_pos hv, if_neg (not_not.mpr hv)]
      rfl
    · rw [if_neg hv, if_pos hv]
      rfl
  -- status 0xB: the controller decides
  case h_12 hst =>
    rw [hst]
    by_cases hk : low7 d1 = Config.sustainCc
    · rw [if_pos hk, if_pos hk]
      rfl
    · rw [if_neg hk, if_neg hk]
      rfl
  -- status 0xF: the last row
  case h_16 =>
    rw [if_neg ‹¬ st.toNat = 0x8›, if_neg ‹¬ st.toNat = 0x9›, if_neg ‹¬ st.toNat = 0xB›, if_neg ‹¬ st.toNat = 0xE›]
    rfl
  all_goals
    rw [‹st.toNat = _›]
    rfl

/-- The operand of R61 is the low seven bits of the data byte. -/
theorem ofNat_toNat_eq_low7 (b : Byte) : BitVec.ofNat 7 b.toNat = low7 b := rfl

/-- R61 over the four fields of the word. -/
theorem processMessage_packMsg (d2 d1 : Byte) (st ch : Nibble) (s : State) :
    processMessage (packMsg d2 d1 st ch) s =
      if ch ≠ s.listenCh then s
      else if rangeChecked st = true ∧ (d1.msb = true ∨ d2.msb = true) then raiseInvalidArgument (packMsg d2 d1 st ch) s
      else if st.toNat = 0x8 then release (low7 d1) s
      else if st.toNat = 0x9 then (if low7 d2 ≠ 0 then press (low7 d1) s else release (low7 d1) s)
      else if st.toNat = 0xB then
        (if low7 d1 = Config.sustainCc then releaseNone (setPedal (pedalHeld (low7 d2)) s) else s)
      else if st.toNat = 0xE then setPitchWheel (low7 d2) s
      else s := by
  have hv : (low7 d2).toNat ≠ 0 ↔ low7 d2 ≠ 0 := BitVec.toNat_ne_iff_ne (y := 0)
  have hk : (low7 d1).toNat = 0x40 ↔ low7 d1 = Config.sustainCc := BitVec.toNat_inj (y := Config.sustainCc)
  simp only [processMessage, badData_packMsg, channelOf_packMsg, statusOf_packMsg, data1Of_packMsg, data2Of_packMsg,
    ofNat_toNat_eq_low7, BitVec.toNat_ne_iff_ne, hv, hk]
  rfl

/-- Running what a word decodes to is PROCESS_MESSAGE of the word (R49, R61). -/
theorem exec_decode (w : Msg) (s : State) : exec (decode s.listenCh w) s = .next (processMessage w s) := by
  rw [← packMsg_fields w, decode_packMsg, processMessage_packMsg]
  generalize w.extractLsb' 16 8 = d2, w.extractLsb' 8 8 = d1, w.extractLsb' 4 4 = st, w.extractLsb' 0 4 = ch
  by_cases hch : ch = s.listenCh
  · rw [if_pos hch, if_neg (not_not.mpr hch)]
    split
    · next hbad =>
      obtain ⟨hst, hd⟩ := hbad
      rw [hch, exec_invalidInstr hst hd]
    · exact exec_classInstr st d1 d2 s
  · rw [if_neg hch, if_pos hch, exec_discardInstr]

/-- A step on a waiting message is PROCESS_MESSAGE on the state with that message taken (R61). -/
theorem step_messageEvent {s : State} {w : Msg} {rest : List HostEvent} (hp : s.pending = messageEvent w :: rest) :
    step s = .next (processMessage w { s with pending := rest }) := by
  rw [stepRunsDecodedInstruction s w rest hp]
  exact exec_decode w { s with pending := rest }

end Sys2Proof.Machine
end

section
/-! Ticks: their messages in arrival order, then one reading of the outputs (R37), in any grouping (R38). -/

namespace Sys2Proof.Machine

/-! ### The waiting events and the messages -/

/-- PROCESS_MESSAGE of each message, in arrival order (R37). -/
def processMessages (msgs : List Msg) (s : State) : State := msgs.foldl (fun t w => processMessage w t) s

theorem processMessages_append (msgs later : List Msg) (s : State) :
    processMessages (msgs ++ later) s = processMessages later (processMessages msgs s) :=
  List.foldl_append

theorem select_setPending (s : State) (l : List HostEvent) :
    select { s with pending := l } = { select s with pending := l } := by
  obtain ⟨hp, h⟩ | ⟨hp, n, htop, h⟩ | ⟨hp, hempty, h⟩ := select_cases s <;> rw [h]
  · exact select_held hp
  · exact select_top hp htop
  · exact select_empty hp hempty

theorem release_setPending (n : Note) (s : State) (l : List HostEvent) :
    release n { s with pending := l } = { release n s with pending := l } := by
  rw [release_eq, release_eq]
  exact select_setPending { s with stack := s.stack.erase n } l

theorem sustain_setPending (held : Bool) (s : State) (l : List HostEvent) :
    releaseNone (setPedal held { s with pending := l }) = { releaseNone (setPedal held s) with pending := l } := by
  rw [sustain_eq, sustain_eq]
  exact select_setPending { s with pedal := held } l

/-- No message reads or writes what else is waiting (R33). -/
theorem processMessage_setPending (w : Msg) (s : State) (l : List HostEvent) :
    processMessage w { s with pending := l } = { processMessage w s with pending := l } := by
  simp only [processMessage]
  split_ifs
  · rfl
  · simp [raiseInvalidArgument_eq]
  · exact release_setPending _ s l
  · simp [press_eq]
  · exact release_setPending _ s l
  · exact sustain_setPending _ s l
  · rfl
  · rfl
  · rfl

theorem processMessage_pending (w : Msg) (s : State) : (processMessage w s).pending = s.pending :=
  (exec_keeps_listenCh_pending (exec_decode w s)).2

theorem processMessages_pending (msgs : List Msg) (s : State) : (processMessages msgs s).pending = s.pending := by
  induction msgs generalizing s with
  | nil => rfl
  | cons w msgs ih => exact (ih _).trans (processMessage_pending w s)

/-- Draining waiting messages processes them in arrival order and leaves nothing waiting (R37). -/
theorem drain_messages (msgs : List Msg) (s : State) :
    drain { s with pending := msgs.map messageEvent } = .next { processMessages msgs s with pending := [] } := by
  induction msgs generalizing s with
  | nil => exact drain_idle rfl
  | cons w msgs ih =>
    have hstep : step { s with pending := messageEvent w :: msgs.map messageEvent }
        = .next { processMessage w s with pending := msgs.map messageEvent } := by
      rw [step_messageEvent rfl, ← processMessage_setPending]
    rw [List.map_cons, drain_cons rfl hstep rfl, ih]
    rfl

/-- Settles O44: draining the delivered messages processes each in turn. -/
theorem tickRunsMessagesThenReadsOutputs : Obligations.TickRunsMessagesThenReadsOutputs := by
  intro fmt msgs s hp
  have hdeliver : deliver (msgs.map messageEvent) s = { s with pending := msgs.map messageEvent } := by
    rw [deliver, hp]
    rfl
  have hidle : { processMessages msgs s with pending := [] } = processMessages msgs s := by
    rw [← hp, ← processMessages_pending msgs s]
  rw [tick, hdeliver, drain_messages, hidle]
  rfl

/-- The messages of an earlier tick may as well stand in front of those of this one (R38). -/
theorem tick_append (fmt : Config.PitchFormat) (msgs later : List Msg) {s : State} (hp : s.pending = []) :
    tick fmt (msgs ++ later) s = tick fmt later (processMessages msgs s) := by
  have hp' : (processMessages msgs s).pending = [] := (processMessages_pending msgs s).trans hp
  rw [tickRunsMessagesThenReadsOutputs _ _ _ hp, tickRunsMessagesThenReadsOutputs _ _ _ hp', List.foldl_append]
  rfl

/-- Settles O45: by induction on the batches, each of which may be put in front of the later ones. -/
theorem tickGroupingDoesNotMatter : Obligations.TickGroupingDoesNotMatter := by
  intro fmt batches s hp
  induction batches generalizing s with
  | nil => exact ⟨s, [], ticks_nil fmt s, tickRunsMessagesThenReadsOutputs fmt [] s hp, hp, rfl, nofun⟩
  | cons batch later ih =>
    have hp' : (processMessages batch s).pending = [] := (processMessages_pending batch s).trans hp
    obtain ⟨t, readings, hticks, htick, hidle, hlen, hlast⟩ := ih _ hp'
    refine ⟨t, _ :: readings, ticks_cons (tickRunsMessagesThenReadsOutputs fmt batch s hp) hticks, ?_, hidle,
      by simp [hlen], ?_⟩
    · rw [List.flatten_cons, tick_append fmt batch later.flatten hp, htick]
    · intro o ho
      cases readings with
      | nil =>
        obtain rfl : later = [] := List.length_eq_zero_iff.mp hlen.symm
        cases hticks
        exact (Option.some.inj ho).symm
      | cons r readings => exact hlast o (by rwa [List.getLast?_cons_cons] at ho)

end Sys2Proof.Machine
end

section
/-! Decoding and encoding are inverse to each other: the laws of Laws/PerInstr.lean taken together, and an instruction
for every word. -/

namespace Sys2Proof

open Laws.RoundTrip in
/-- Settles O20: one law per constructor. -/
theorem decodeOfEncode : Obligations.DecodeOfEncode := fun c i =>
  match i with
  | .discardCh0 st d1 d2 => discardCh0 st d1 d2 c
  | .discardCh1 st d1 d2 => discardCh1 st d1 d2 c
  | .discardCh2 st d1 d2 => discardCh2 st d1 d2 c
  | .discardCh3 st d1 d2 => discardCh3 st d1 d2 c
  | .discardCh4 st d1 d2 => discardCh4 st d1 d2 c
  | .discardCh5 st d1 d2 => discardCh5 st d1 d2 c
  | .discardCh6 st d1 d2 => discardCh6 st d1 d2 c
  | .discardCh7 st d1 d2 => discardCh7 st d1 d2 c
  | .discardCh8 st d1 d2 => discardCh8 st d1 d2 c
  | .discardCh9 st d1 d2 => discardCh9 st d1 d2 c
  | .discardCh10 st d1 d2 => discardCh10 st d1 d2 c
  | .discardCh11 st d1 d2 => discardCh11 st d1 d2 c
  | .discardCh12 st d1 d2 => discardCh12 st d1 d2 c
  | .discardCh13 st d1 d2 => discardCh13 st d1 d2 c
  | .discardCh14 st d1 d2 => discardCh14 st d1 d2 c
  | .discardCh15 st d1 d2 => discardCh15 st d1 d2 c
  | .invalidStatus8Data1 low1 d2 => invalidStatus8Data1 low1 d2 c
  | .invalidStatus8Data2 d1 low2 => invalidStatus8Data2 d1 low2 c
  | .invalidStatus9Data1 low1 d2 => invalidStatus9Data1 low1 d2 c
  | .invalidStatus9Data2 d1 low2 => invalidStatus9Data2 d1 low2 c
  | .invalidStatusBData1 low1 d2 => invalidStatusBData1 low1 d2 c
  | .invalidStatusBData2 d1 low2 => invalidStatusBData2 d1 low2 c
  | .invalidStatusEData1 low1 d2 => invalidStatusEData1 low1 d2 c
  | .invalidStatusEData2 d1 low2 => invalidStatusEData2 d1 low2 c
  | .noteOff n v => noteOff n v c
  | .noteOnV0 n => noteOnV0 n c
  | .noteOn n v => noteOn n v c
  | .ccSustain v => ccSustain v c
  | .ccOther k v => ccOther k v c
  | .pitchWheel l m => pitchWheel l m c
  | .ignoredStatus0 d1 d2 => ignoredStatus0 d1 d2 c
  | .ignoredStatus1 d1 d2 => ignoredStatus1 d1 d2 c
  | .ignoredStatus2 d1 d2 => ignoredStatus2 d1 d2 c
  | .ignoredStatus3 d1 d2 => ignoredStatus3 d1 d2 c
  | .ignoredStatus4 d1 d2 => ignoredStatus4 d1 d2 c
  | .ignoredStatus5 d1 d2 => ignoredStatus5 d1 d2 c
  | .ignoredStatus6 d1 d2 => ignoredStatus6 d1 d2 c
  | .ignoredStatus7 d1 d2 => ignoredStatus7 d1 d2 c
  | .ignoredStatusA d1 d2 => ignoredStatusA d1 d2 c
  | .ignoredStatusC d1 d2 => ignoredStatusC d1 d2 c
  | .ignoredStatusD d1 d2 => ignoredStatusD d1 d2 c
  | .ignoredStatusF d1 d2 => ignoredStatusF d1 d2 c

/-! ### Every word is the encoding of a well-formed instruction -/

theorem encode_discardInstr (c ch st : Nibble) (d1 d2 : Byte) :
    encode c (discardInstr ch st d1 d2) = packMsg d2 d1 st ch := by
  obtain ⟨⟨k, hk⟩⟩ := ch
  interval_cases k <;> rfl

theorem wellFormed_discardInstr (c ch st : Nibble) (d1 d2 : Byte) :
    WellFormed c (discardInstr ch st d1 d2) = (c != ch) := by
  obtain ⟨⟨k, hk⟩⟩ := ch
  interval_cases k <;> rfl

/-- The statuses of the IGNORED rows (R70). -/
theorem unchecked_cases : ∀ {st : Nibble}, rangeChecked st = false →
    st = 0x0 ∨ st = 0x1 ∨ st = 0x2 ∨ st = 0x3 ∨ st = 0x4 ∨ st = 0x5 ∨ st = 0x6 ∨ st = 0x7
      ∨ st = 0xA ∨ st = 0xC ∨ st = 0xD ∨ st = 0xF := by
  decide

/-- A status that is not range-checked has one IGNORED row, which carries both data bytes (R45, R46). -/
theorem encode_classInstr_unchecked {st : Nibble} (h : rangeChecked st = false) (c : Nibble) (d1 d2 : Byte) :
    WellFormed c (classInstr st d1 d2) = true ∧ encode c (classInstr st d1 d2) = packMsg d2 d1 st c := by
  obtain rfl | rfl | rfl | rfl | rfl | rfl | rfl | rfl | rfl | rfl | rfl | rfl := unchecked_cases h <;> exact ⟨rfl, rfl⟩

theorem exists_byteOf {b : Byte} (h : ¬ b.msb = true) : ∃ v, byteOf v = b := ⟨low7 b, Machine.byteOf_low7_of_msb h⟩

theorem exists_badByteOf {b : Byte} (h : b.msb = true) : ∃ v, badByteOf v = b := ⟨low7 b, Machine.badByteOf_low7 h⟩

/-- The INVALID_DATA row with data1 out of range (R63). -/
theorem exists_encode_badData1 {st : Nibble} (h : rangeChecked st = true) (c : Nibble) (low1 : Data7) (d2 : Byte) :
    ∃ i, WellFormed c i = true ∧ encode c i = packMsg d2 (badByteOf low1) st c := by
  refine ⟨invalidData1Instr st low1 d2, ?_⟩
  obtain rfl | rfl | rfl | rfl := Machine.rangeChecked_cases h <;> exact ⟨rfl, rfl⟩

/-- The INVALID_DATA row with data2 alone out of range (R63). -/
theorem exists_encode_badData2 {st : Nibble} (h : rangeChecked st = true) (c : Nibble) (v low2 : Data7) :
    ∃ i, WellFormed c i = true ∧ encode c i = packMsg (badByteOf low2) (byteOf v) st c := by
  refine ⟨invalidData2Instr st v low2, ?_⟩
  obtain rfl | rfl | rfl | rfl := Machine.rangeChecked_cases h <;> exact ⟨rfl, rfl⟩

/-- The rows of a range-checked status with both data bytes in range (R44, R64 to R69). -/
theorem exists_encode_inRange {st : Nibble} (h : rangeChecked st = true) (c : Nibble) (a b : Data7) :
    ∃ i, WellFormed c i = true ∧ encode c i = packMsg (byteOf b) (byteOf a) st c := by
  obtain rfl | rfl | rfl | rfl := Machine.rangeChecked_cases h
  · exact ⟨.noteOff a b, rfl, rfl⟩
  · obtain rfl | hb := eq_or_ne b 0
    · exact ⟨.noteOnV0 a, rfl, rfl⟩
    · exact ⟨.noteOn a b, bne_iff_ne.mpr hb, rfl⟩
  · obtain rfl | ha := eq_or_ne a Config.sustainCc
    · exact ⟨.ccSustain b, rfl, rfl⟩
    · exact ⟨.ccOther a b, bne_iff_ne.mpr ha, rfl⟩
  · exact ⟨.pitchWheel a b, rfl, rfl⟩

/-- No word is without an instruction (R47): the channel filter, the range check and the status find it (R45). -/
theorem exists_encode_eq (c : Nibble) (w : Msg) : ∃ i, WellFormed c i = true ∧ encode c i = w := by
  rw [← packMsg_fields w]
  generalize w.extractLsb' 16 8 = d2, w.extractLsb' 8 8 = d1, w.extractLsb' 4 4 = st, w.extractLsb' 0 4 = ch
  obtain rfl | hch := eq_or_ne c ch
  · cases hst : rangeChecked st with
    | false => exact ⟨_, encode_classInstr_unchecked hst c d1 d2⟩
    | true =>
      by_cases h1 : d1.msb = true
      · obtain ⟨low1, rfl⟩ := exists_badByteOf h1
        exact exists_encode_badData1 hst c low1 d2
      · obtain ⟨a, rfl⟩ := exists_byteOf h1
        by_cases h2 : d2.msb = true
        · obtain ⟨low2, rfl⟩ := exists_badByteOf h2
          exact exists_encode_badData2 hst c a low2
        · obtain ⟨b, rfl⟩ := exists_byteOf h2
          exact exists_encode_inRange hst c a b
  · refine ⟨discardInstr ch st d1 d2, ?_, encode_discardInstr c ch st d1 d2⟩
    rw [wellFormed_discardInstr, bne_iff_ne]
    exact hch

/-- Settles O21: the word is the encoding of some well-formed instruction, and by O20 that is the one it decodes to. -/
theorem encodeOfDecode : Obligations.EncodeOfDecode := by
  intro c w
  obtain ⟨i, hwf, rfl⟩ := exists_encode_eq c w
  rw [decodeOfEncode c i hwf]
  exact ⟨hwf, rfl⟩

end Sys2Proof
end

section
/-! The decoder and the tables of R45 and R46, and the operands that no meaning reads. -/

namespace Sys2Proof.Machine

/-- Settles O24: the class of the decoded instruction, row by row. -/
theorem decoderFollowsClassTable : Obligations.DecoderFollowsClassTable := classOf_decode

/-! ### Operands with no effect -/

/-- A step on the waiting word of a well-formed instruction runs that instruction (R61). -/
theorem step_encode (s : State) (rest : List HostEvent) {i : Instr} (h : WellFormed s.listenCh i = true) :
    step { s with pending := messageEvent (encode s.listenCh i) :: rest } = exec i { s with pending := rest } :=
  (stepRunsDecodedInstruction _ _ rest rfl).trans (by rw [decodeOfEncode _ i h])

/-- The words of two instructions with one meaning are the same step. -/
theorem step_encode_congr (s : State) (rest : List HostEvent) {i j : Instr} (hi : WellFormed s.listenCh i = true)
    (hj : WellFormed s.listenCh j = true) (h : ∀ t, exec i t = exec j t) :
    step { s with pending := messageEvent (encode s.listenCh i) :: rest }
      = step { s with pending := messageEvent (encode s.listenCh j) :: rest } := by
  rw [step_encode s rest hi, step_encode s rest hj, h]

/-- Settles O47: the words are those of three instructions, and the meaning of each has an operand it does not read. -/
theorem unusedOperandsDoNotMatter : Obligations.UnusedOperandsDoNotMatter := by
  intro s n m v v' rest
  refine ⟨?_, fun hv hv' => ?_, ?_⟩
  · exact step_encode_congr s rest (i := .noteOff n v) (j := .noteOff n v') rfl rfl fun _ => rfl
  · exact step_encode_congr s rest (i := .noteOn n v) (j := .noteOn n v') (bne_iff_ne.mpr hv) (bne_iff_ne.mpr hv')
      fun _ => rfl
  · exact step_encode_congr s rest (i := .pitchWheel v m) (j := .pitchWheel v' m) rfl rfl fun _ => rfl

end Sys2Proof.Machine
end

section
/-! The decoder takes the first row of the pattern table that fits the word (R46). -/

namespace Sys2Proof.Machine

/-! ### Masks, field by field -/

theorem packMsg_and (d2 d1 e2 e1 : Byte) (st ch sf cf : Nibble) :
    packMsg d2 d1 st ch &&& packMsg e2 e1 sf cf = packMsg (d2 &&& e2) (d1 &&& e1) (st &&& sf) (ch &&& cf) := by
  apply BitVec.eq_of_getLsbD_eq
  intro i _
  simp only [BitVec.getLsbD_and, packMsg_getLsbD]
  split_ifs <;> rfl

theorem packMsg_or (d2 d1 e2 e1 : Byte) (st ch sf cf : Nibble) :
    packMsg d2 d1 st ch ||| packMsg e2 e1 sf cf = packMsg (d2 ||| e2) (d1 ||| e1) (st ||| sf) (ch ||| cf) := by
  apply BitVec.eq_of_getLsbD_eq
  intro i _
  simp only [BitVec.getLsbD_or, packMsg_getLsbD]
  split_ifs <;> rfl

theorem packMsg_inj {d2 d1 e2 e1 : Byte} {st ch sf cf : Nibble} :
    packMsg d2 d1 st ch = packMsg e2 e1 sf cf ↔ d2 = e2 ∧ d1 = e1 ∧ st = sf ∧ ch = cf := by
  refine ⟨fun h => ⟨?_, ?_, ?_, ?_⟩, ?_⟩
  · simpa using congrArg (BitVec.extractLsb' 16 8) h
  · simpa using congrArg (BitVec.extractLsb' 8 8) h
  · simpa using congrArg (BitVec.extractLsb' 4 4) h
  · simpa using congrArg (BitVec.extractLsb' 0 4) h
  · rintro ⟨rfl, rfl, rfl, rfl⟩
    rfl

theorem setWidth_channel : ∀ c : Nibble, c.setWidth 24 = packMsg 0 0 0 c := by decide

@[simp] theorem nibble_and_ones (x : Nibble) : x &&& 15#4 = x := BitVec.and_allOnes

@[simp] theorem byte_and_ones (b : Byte) : b &&& 255#8 = b := BitVec.and_allOnes

/-- The mask of the top bit asks whether the byte is out of range (R43). -/
@[simp] theorem byte_and_top_eq_top : ∀ b : Byte, b &&& 128#8 = 128#8 ↔ b.msb = true := by decide

@[simp] theorem byte_and_top_eq_zero : ∀ b : Byte, b &&& 128#8 = 0#8 ↔ b.msb = false := by decide

/-! ### The DISCARD rows -/

theorem discardPatterns_mask {c : Nibble} {p : Pattern} (h : p ∈ discardPatterns c) : p.mask = packMsg 0 0 0 15 := by
  obtain ⟨hmem, -⟩ := List.mem_filter.mp h
  clear h
  revert p
  decide

/-- A DISCARD row looks at the channel alone (R46). -/
theorem discardPatterns_fits {c : Nibble} {p : Pattern} (h : p ∈ discardPatterns c) (d2 d1 : Byte) (st ch : Nibble) :
    p.fits (packMsg d2 d1 st ch) = (p.bits == ch.setWidth 24) := by
  rw [Pattern.fits, discardPatterns_mask h, packMsg_and, setWidth_channel, Bool.beq_comm]
  simp

/-- A row of the channel is in the table where the channel is not the listening one (R46). -/
theorem find?_discardPatterns (c : Nibble) (d2 d1 : Byte) (st ch : Nibble) :
    ((discardPatterns c).find? (fun p => p.fits (packMsg d2 d1 st ch))).map Pattern.mnemonic =
      if ch = c then none else some (mnemonicOf (discardInstr ch st d1 d2)) := by
  rw [List.find?_congr fun p hp => discardPatterns_fits hp d2 d1 st ch]
  split
  · next hch =>
    rw [List.find?_eq_none.mpr]
    · rfl
    · intro p hp
      obtain ⟨-, hne⟩ := List.mem_filter.mp hp
      simpa [hch] using hne
  · next hch =>
    have hwide : ch.setWidth 24 ≠ c.setWidth 24 := by simpa [setWidth_channel, packMsg_inj] using hch
    have hkeep : (fun p : Pattern => decide ((p.bits != c.setWidth 24) = true ∧ (p.bits == ch.setWidth 24) = true))
        = fun p => p.bits == ch.setWidth 24 := by
      funext p
      by_cases hp : p.bits = ch.setWidth 24 <;> simp [hp, hwide]
    rw [discardPatterns, List.find?_filter, hkeep]
    obtain ⟨⟨k, hk⟩⟩ := ch
    interval_cases k <;> rfl

/-! ### The rows of the listening channel -/

@[simp] theorem acceptedPattern_mnemonic (c : Nibble) (name : String) (bits mask : Msg) :
    (acceptedPattern c name bits mask).mnemonic = name := rfl

/-- A row of the listening channel, whose mask covers channel and status, fits an accepted word by the word's fields (R46). -/
theorem acceptedPattern_fits {bits mask : Msg} (hbits : bits.extractLsb' 0 4 = 0) (hchannel : mask.extractLsb' 0 4 = 15)
    (hstatus : mask.extractLsb' 4 4 = 15) (c : Nibble) (name : String) (d2 d1 : Byte) (st : Nibble) :
    (acceptedPattern c name bits mask).fits (packMsg d2 d1 st c) =
      decide (st = bits.extractLsb' 4 4 ∧ d1 &&& mask.extractLsb' 8 8 = bits.extractLsb' 8 8
        ∧ d2 &&& mask.extractLsb' 16 8 = bits.extractLsb' 16 8) := by
  have hword : bits ||| c.setWidth 24
      = packMsg (bits.extractLsb' 16 8) (bits.extractLsb' 8 8) (bits.extractLsb' 4 4) c := by
    conv_lhs => rw [← packMsg_fields bits, hbits, setWidth_channel, packMsg_or]
    simp
  have hmask : mask = packMsg (mask.extractLsb' 16 8) (mask.extractLsb' 8 8) 15 15 := by
    conv_lhs => rw [← packMsg_fields mask, hstatus, hchannel]
  rw [acceptedPattern, Pattern.fits, hword]
  conv_lhs => rw [hmask, packMsg_and]
  rw [BitVec.ofNat_eq_ofNat, nibble_and_ones, nibble_and_ones, Bool.eq_iff_iff, beq_iff_eq, decide_eq_true_iff, packMsg_inj]
  tauto

/-! ### The first row that fits an accepted word -/

/-- The statuses that are not range-checked (R43). -/
theorem ne_of_unchecked {st : Nibble} (h : rangeChecked st = false) :
    st ≠ 8#4 ∧ st ≠ 9#4 ∧ st ≠ 11#4 ∧ st ≠ 14#4 := by
  simpa [rangeChecked, and_assoc] using h

/-- The INVALID_DATA rows: the data1 row of a status stands before its data2 row (log entry 6). -/
theorem find?_invalidPatterns (c : Nibble) (d2 d1 : Byte) (st : Nibble) :
    ((invalidPatterns c).find? (fun p => p.fits (packMsg d2 d1 st c))).map Pattern.mnemonic =
      if rangeChecked st = true ∧ (d1.msb = true ∨ d2.msb = true) then some (mnemonicOf (invalidInstr st d1 d2))
      else none := by
  cases hst : rangeChecked st with
  | true =>
    by_cases h1 : d1.msb = true
    · rw [if_pos ⟨rfl, .inl h1⟩, invalidInstr, if_pos h1]
      obtain rfl | rfl | rfl | rfl := rangeChecked_cases hst <;>
        simp [invalidPatterns, acceptedPattern_fits, h1, invalidData1Instr, mnemonicOf]
    · rw [invalidInstr, if_neg h1]
      by_cases h2 : d2.msb = true
      · obtain rfl | rfl | rfl | rfl := rangeChecked_cases hst <;>
          simp [invalidPatterns, acceptedPattern_fits, h1, h2, invalidData2Instr, mnemonicOf]
      · simp [invalidPatterns, acceptedPattern_fits, h1, h2]
  | false =>
    obtain ⟨h8, h9, hB, hE⟩ := ne_of_unchecked hst
    simp [invalidPatterns, acceptedPattern_fits, h8, h9, hB, hE]

theorem byteOf_eq_zero_iff : ∀ v : Data7, byteOf v = 0#8 ↔ v = 0#7 := by decide

theorem byteOf_eq_sustainCc_iff : ∀ k : Data7, byteOf k = 64#8 ↔ k = 64#7 := by decide

/-- A word whose data bytes are in range takes the row of its status, and of the two that share a status the more special one
where it fits (R46). -/
theorem find?_functionalPatterns {st : Nibble} (h : rangeChecked st = true) (c : Nibble) (a b : Data7) :
    ((functionalPatterns c).find? (fun p => p.fits (packMsg (byteOf b) (byteOf a) st c))).map Pattern.mnemonic =
      some (mnemonicOf (classInstr st (byteOf a) (byteOf b))) := by
  obtain rfl | rfl | rfl | rfl := rangeChecked_cases h
  · simp [functionalPatterns, acceptedPattern_fits, classInstr, mnemonicOf]
  -- status 0x9: NOTE_ON_V0 stands before NOTE_ON
  · obtain rfl | hb := eq_or_ne b 0#7
    · simp [functionalPatterns, acceptedPattern_fits, classInstr, mnemonicOf, byteOf_eq_zero_iff]
    · simp [functionalPatterns, acceptedPattern_fits, classInstr, mnemonicOf, byteOf_eq_zero_iff, hb]
  -- status 0xB: CC_SUSTAIN stands before CC_OTHER
  · obtain rfl | ha := eq_or_ne a 64#7
    · simp [functionalPatterns, acceptedPattern_fits, classInstr, mnemonicOf, byteOf_eq_sustainCc_iff, Config.sustainCc]
    · simp [functionalPatterns, acceptedPattern_fits, classInstr, mnemonicOf, byteOf_eq_sustainCc_iff, Config.sustainCc,
        ha]
  · simp [functionalPatterns, acceptedPattern_fits, classInstr, mnemonicOf]

theorem find?_functionalPatterns_unchecked {st : Nibble} (h : rangeChecked st = false) (c : Nibble) (d2 d1 : Byte) :
    (functionalPatterns c).find? (fun p => p.fits (packMsg d2 d1 st c)) = none := by
  obtain ⟨h8, h9, hB, hE⟩ := ne_of_unchecked h
  simp [functionalPatterns, acceptedPattern_fits, h8, h9, hB, hE]

theorem find?_ignoredPatterns {st : Nibble} (h : rangeChecked st = false) (c : Nibble) (d2 d1 : Byte) :
    ((ignoredPatterns c).find? (fun p => p.fits (packMsg d2 d1 st c))).map Pattern.mnemonic =
      some (mnemonicOf (classInstr st d1 d2)) := by
  obtain rfl | rfl | rfl | rfl | rfl | rfl | rfl | rfl | rfl | rfl | rfl | rfl := unchecked_cases h <;>
    simp [ignoredPatterns, acceptedPattern_fits, classInstr, mnemonicOf]

/-- Settles O25: group by group of the table, as the decoder filters the channel, checks the range and reads the status. -/
theorem decoderFollowsOpcodeTable : Obligations.DecoderFollowsOpcodeTable := by
  intro c w
  rw [← packMsg_fields w, decode_packMsg]
  generalize w.extractLsb' 16 8 = d2, w.extractLsb' 8 8 = d1, w.extractLsb' 4 4 = st, w.extractLsb' 0 4 = ch
  simp only [opcodeTable, List.append_assoc, List.find?_append, Option.map_or]
  rw [find?_discardPatterns]
  obtain rfl | hch := eq_or_ne ch c
  · rw [if_pos rfl, if_pos rfl, Option.none_or, find?_invalidPatterns]
    split
    · rw [Option.some_or]
    · next hgood =>
      rw [Option.none_or]
      cases hst : rangeChecked st with
      | false => rw [find?_functionalPatterns_unchecked hst, Option.map_none, Option.none_or, find?_ignoredPatterns hst]
      | true =>
        obtain ⟨h1, h2⟩ := not_or.mp (not_and.mp hgood hst)
        obtain ⟨a, rfl⟩ := exists_byteOf h1
        obtain ⟨b, rfl⟩ := exists_byteOf h2
        rw [find?_functionalPatterns hst, Option.some_or]
  · rw [if_neg hch, if_neg hch, Option.some_or]

end Sys2Proof.Machine
end

section
/-! The outputs of DECODE (R49), and the words of the spec's worked examples. -/

namespace Sys2Proof.Machine

/-! ### The verdicts of DECODE -/

/-- The channel filter compares bits 3..0 with LISTEN_CH (R49). -/
theorem decodeFields_acc (c : Nibble) (w : Msg) : (decodeFields c w).acc = true ↔ channelOf w = c.toNat := by
  rw [channelOf_eq, BitVec.toNat_inj]
  exact beq_iff_eq

/-- The range check reads bits 15 and 23, the top bits of the two data bytes (R43, R49). -/
theorem decodeFields_dvalid (c : Nibble) (w : Msg) :
    (decodeFields c w).dvalid = true ↔ data1Of w ≤ 127 ∧ data2Of w ≤ 127 := by
  rw [← packMsg_fields w, data1Of_packMsg, data2Of_packMsg, ← not_lt, ← not_lt, ← msb_iff_lt, ← msb_iff_lt]
  simp [decodeFields]

/-- Settles O23: the four fields are bit slices of the word, and each verdict has its lemma. -/
theorem decodeExtractsFields : Obligations.DecodeExtractsFields := fun c w =>
  ⟨(channelOf_eq w).symm, (statusOf_eq w).symm, (data1Of_eq w).symm, (data2Of_eq w).symm, decodeFields_acc c w,
    decodeFields_dvalid c w⟩

/-! ### Words of the worked examples -/

/-- A word is decoded to the well-formed instruction it encodes (O20). -/
theorem decode_eq_of_encode_eq {c : Nibble} {w : Msg} {i : Instr} (hwf : WellFormed c i = true) (h : encode c i = w) :
    decode c w = i :=
  h ▸ decodeOfEncode c i hwf

/-- Settles O22: each word is the encoding of the instruction named beside it. -/
theorem workedExampleWordsDecode : Obligations.WorkedExampleWordsDecode := by
  refine ⟨?_, ?_, ?_, ?_, ?_, ?_, ?_, ?_, ?_, ?_, ?_⟩ <;> exact decode_eq_of_encode_eq rfl rfl

end Sys2Proof.Machine
end

section
/-! PRESS, RELEASE and SELECT on the note stack (R52 to R56). -/

namespace Sys2Proof.Machine

/-! ### SELECT -/

/-- SELECT leaves a state in which the pedal is held, or the top sounds, or the block is silent, and each of them it
leaves alone. -/
theorem select_select (s : State) : select (select s) = select s := by
  obtain ⟨-, h⟩ | ⟨hp, n, htop, h⟩ | ⟨hp, hempty, h⟩ := select_cases s
  · rw [h, h]
  · rw [h, select_top (s := { s with cur := n }) hp htop]
  · rw [h, select_empty (s := { s with gate := false }) hp hempty]

/-- Settles O36: one law of SELECT per case of R54, and its idempotence. -/
theorem selectIsLastNotePriority : Obligations.SelectIsLastNotePriority := fun s =>
  ⟨select_held, fun _ => select_top, select_empty, select_select s⟩

/-- SELECT has nothing to do where the top sounds already (R25) and an empty stack is silent (R24). -/
theorem select_eq_self {s : State} (hidle : InvIdle s) (htop : InvTop s) : select s = s := by
  obtain ⟨-, h⟩ | ⟨hp, n, hn, h⟩ | ⟨hp, hempty, h⟩ := select_cases s
  · exact h
  · have hlen : 0 < s.len := List.length_pos_of_mem (List.mem_of_getLast? hn)
    have hcur : n = s.cur := Option.some.inj (hn.symm.trans (htop hp hlen))
    rw [h, hcur]
  · have hgate : s.gate = false := hidle hp (List.length_eq_zero_iff.mpr hempty)
    rw [h, ← hgate]

/-! ### RELEASE -/

/-- RELEASE of an absent note only runs the selector (R53). -/
theorem release_of_not_mem {s : State} {n : Note} (hn : n ∉ s.stack) : release n s = select s := by
  rw [release_eq, List.erase_of_not_mem hn]

/-- Settles O37: nothing is removed, and in a state that meets the invariant SELECT has nothing to do. -/
theorem releaseOfAbsentNoteIsNoOp : Obligations.ReleaseOfAbsentNoteIsNoOp := by
  intro s n v hinv hn
  obtain ⟨-, -, hidle, htop, -⟩ := hinv
  have hrelease : release n s = s := (release_of_not_mem hn).trans (select_eq_self hidle htop)
  exact ⟨congrArg _ hrelease, congrArg _ hrelease⟩

theorem release_len_of_mem {s : State} {n : Note} (h : n ∈ s.stack) : (release n s).len + 1 = s.len := by
  rw [release_eq, State.len, select_stack, List.length_erase_of_mem h]
  exact Nat.sub_add_cancel (List.length_pos_of_mem h)

theorem release_len_of_not_mem {s : State} {n : Note} (h : n ∉ s.stack) : (release n s).len = s.len := by
  rw [release_of_not_mem h, State.len, select_stack, State.len]

/-! ### PRESS -/

theorem press_top (n : Note) (s : State) : (press n s).stack.getLast? = some n := by
  rw [press_eq, List.getLast?_concat]

theorem press_cur (n : Note) (s : State) : (press n s).cur = n := by
  rw [press_eq]

theorem press_gate (n : Note) (s : State) : (press n s).gate = true := by
  rw [press_eq]

/-- Where the top occurs once, taking it out and putting it on top again gives the same list. -/
theorem erase_append_of_getLast? {l : List Note} {n : Note} (h : l.Nodup) (hlast : l.getLast? = some n) :
    l.erase n ++ [n] = l := by
  obtain ⟨below, rfl⟩ := List.getLast?_eq_some_iff.mp hlast
  have hn : n ∉ below := fun hmem => List.disjoint_of_nodup_append h hmem (List.mem_singleton_self n)
  rw [List.erase_append_right [n] hn, List.erase_cons_head, List.append_nil]

/-- Pressing the note that is on top and sounds already changes nothing (R52). -/
theorem press_eq_self {s : State} {n : Note} (hdistinct : InvDistinct s) (hgate : s.gate = true) (hcur : s.cur = n)
    (htop : s.stack.getLast? = some n) : press n s = s := by
  rw [press_eq, erase_append_of_getLast? hdistinct htop, ← hgate, ← hcur]

/-- Settles O38: after a PRESS the note is on top and sounds, so a second one changes nothing. -/
theorem repeatedPressIsOnePress : Obligations.RepeatedPressIsOnePress := fun s n hdistinct =>
  ⟨press_eq_self (invDistinct_press hdistinct n) (press_gate n s) (press_cur n s) (press_top n s),
    press_eq_self hdistinct⟩

/-! ### Who takes a note out of the stack -/

theorem mem_press_stack {s : State} {m : Note} (n : Note) (hm : m ∈ s.stack) : m ∈ (press n s).stack := by
  rw [press_eq, List.mem_append, List.mem_singleton]
  by_cases hmn : m = n
  · exact .inr hmn
  · exact .inl ((List.mem_erase_of_ne hmn).mpr hm)

/-- RELEASE takes out no other note than its own (R53). -/
theorem eq_of_not_mem_release_stack {s : State} {m n : Note} (hm : m ∈ s.stack) (hgone : m ∉ (release n s).stack) :
    m = n := by
  by_contra hmn
  rw [release_eq, select_stack] at hgone
  exact hgone ((List.mem_erase_of_ne hmn).mpr hm)

/-- An instruction that takes a note out of the stack is one of the two that release this note. -/
theorem release_instr_of_note_leaves {i : Instr} {s t : State} {m : Note} (hx : exec i s = .next t) (hm : m ∈ s.stack)
    (hgone : m ∉ t.stack) : (∃ v, i = .noteOff m v) ∨ i = .noteOnV0 m := by
  obtain e | ⟨w, -, e⟩ | ⟨n, v, -, e⟩ | ⟨n, hi, e⟩ | ⟨v, -, e⟩ | ⟨l, p, -, e⟩ := exec_cases i s
    <;> rw [e] at hx <;> cases hx
  · exact absurd hm hgone
  · rw [raiseInvalidArgument_eq] at hgone
    exact absurd hm hgone
  · exact absurd (mem_press_stack n hm) hgone
  · rwa [eq_of_not_mem_release_stack hm hgone]
  · rw [sustain_eq, select_stack] at hgone
    exact absurd hm hgone
  · exact absurd hm hgone

theorem toNat_byteOf : ∀ v : Data7, (byteOf v).toNat = v.toNat := by decide

/-- A word that decodes to a release carries the note in data1 (R44). -/
theorem data1Of_of_decode_release {c : Nibble} {w : Msg} {n : Note}
    (h : (∃ v, decode c w = .noteOff n v) ∨ decode c w = .noteOnV0 n) : data1Of w = n.toNat := by
  obtain ⟨-, hw⟩ := encodeOfDecode c w
  rw [← hw]
  obtain ⟨v, h⟩ | h := h <;> rw [h, encode, data1Of_packMsg, toNat_byteOf]

/-- A note leaves the stack only by a reset or by a message that releases it (R56). -/
theorem note_leaves_by_release_or_reset {s t : State} {m : Note} (h : step s = .next t) (hm : m ∈ s.stack)
    (hgone : m ∉ t.stack) :
    (∃ rest, s.pending = resetEvent :: rest)
      ∨ ∃ w rest, s.pending = messageEvent w :: rest ∧ data1Of w = m.toNat
          ∧ (classOfWord s.listenCh w = .noteOff ∨ classOfWord s.listenCh w = .noteOnV0) := by
  by_cases hr : ∃ rest, s.pending = resetEvent :: rest
  · exact .inl hr
  · obtain ⟨rest, rfl⟩ | ⟨w, rest, hp, hx⟩ := step_cases_of_no_reset h (not_exists.mp hr)
    · exact absurd hm hgone
    · refine .inr ⟨w, rest, hp, ?_⟩
      have hi := release_instr_of_note_leaves hx hm hgone
      refine ⟨data1Of_of_decode_release hi, ?_⟩
      rw [← classOf_decode]
      obtain ⟨v, hi⟩ | hi := hi
      · exact .inl (by rw [hi, classOf])
      · exact .inr (by rw [hi, classOf])

/-- Settles O35: the lemmas on PRESS and RELEASE, and the case split on who takes a note out. -/
theorem stackOperationProperties : Obligations.StackOperationProperties := by
  refine ⟨fun s n hdistinct => ⟨invDistinct_press hdistinct n, invDistinct_release hdistinct n, press_top n s,
    press_cur n s, ?_, ?_⟩, fun _ _ _ => note_leaves_by_release_or_reset⟩
  · split
    · next hn => exact press_len_of_mem hn
    · next hn => exact press_len_of_not_mem hn
  · split
    · next hn => exact release_len_of_mem hn
    · next hn => exact release_len_of_not_mem hn

end Sys2Proof.Machine
end

section
/-! The sustain pedal: SET_PEDAL and CC_SUSTAIN (R57, R58), and the voice that a held pedal sustains (R59). -/

namespace Sys2Proof.Machine

/-! ### The second re-evaluation of CC_SUSTAIN (R58) -/

/-- After SET_PEDAL the re-evaluation has nothing to do: a pedal lift has run it already, a held pedal blocks it, and with
the pedal up before and after, the top sounds (R25) or an empty stack is silent (R24). -/
theorem releaseNone_setPedal {s : State} (hidle : InvIdle s) (htop : InvTop s) (held : Bool) :
    releaseNone (setPedal held s) = setPedal held s := by
  rw [sustain_eq, setPedal_eq]
  split
  · next hlift =>
    obtain ⟨-, rfl⟩ := hlift
    rfl
  · next hstays =>
    cases held with
    | true => exact select_held (s := { s with pedal := true }) rfl
    | false =>
      have hup : s.pedal = false := Bool.eq_false_iff.mpr fun hp => hstays ⟨hp, rfl⟩
      exact select_eq_self (s := { s with pedal := false }) (fun _ => hidle hup) (fun _ => htop hup)

/-- Settles O40: CC_SUSTAIN is SET_PEDAL and then the re-evaluation, which has nothing to do. -/
theorem sustainEqualsSetPedal : Obligations.SustainEqualsSetPedal := by
  intro s v hinv
  obtain ⟨-, -, hidle, htop, -⟩ := hinv
  exact congrArg _ (releaseNone_setPedal hidle htop (pedalHeld v))

/-! ### The voice under a held pedal (R59) -/

/-- Under a held pedal only NOTE_ON, and CC_SUSTAIN with a value that lifts the pedal, change GATE or CUR (R59, R54 case 1). -/
theorem press_or_lift_of_held_voice_changes {i : Instr} {s t : State} (hp : s.pedal = true) (hx : exec i s = .next t)
    (hne : t.gate ≠ s.gate ∨ t.cur ≠ s.cur) :
    (∃ n v, i = .noteOn n v) ∨ ∃ v, i = .ccSustain v ∧ pedalHeld v = false := by
  obtain e | ⟨w, -, e⟩ | ⟨n, v, hi, -⟩ | ⟨n, -, e⟩ | ⟨v, hi, e⟩ | ⟨l, m, -, e⟩ := exec_cases i s
  case inr.inr.inl => exact .inl ⟨n, v, hi⟩
  all_goals
    rw [e] at hx
    cases hx
  · simp at hne
  · simp [raiseInvalidArgument_eq] at hne
  · simp [release_held hp] at hne
  · refine .inr ⟨v, hi, Bool.eq_false_iff.mpr fun hheld => ?_⟩
    simp [sustain_eq, hheld, select_held] at hne
  · simp [setPitchWheel_eq] at hne

/-- A word that decodes to CC_SUSTAIN carries the controller value in data2 (R44). -/
theorem data2Of_of_decode_ccSustain {c : Nibble} {w : Msg} {v : Data7} (h : decode c w = .ccSustain v) :
    data2Of w = v.toNat := by
  obtain ⟨-, hw⟩ := encodeOfDecode c w
  rw [← hw, h, encode, data2Of_packMsg, toNat_byteOf]

/-- A controller value lifts the pedal where it is below 64 (R67). -/
theorem pedalHeld_eq_false_iff (v : Data7) : pedalHeld v = false ↔ v.toNat < 64 := by
  rw [pedalHeld, decide_eq_false_iff_not, Nat.not_le, Config.pedalThreshold]

/-- Settles O39: the step ran a message, and while the pedal is held only its two instructions reach the voice. -/
theorem heldPedalSustainsVoice : Obligations.HeldPedalSustainsVoice := by
  intro s t hp h hne
  by_cases hr : ∃ rest, s.pending = resetEvent :: rest
  · exact .inl hr
  · obtain ⟨rest, rfl⟩ | ⟨w, rest, hw, hx⟩ := step_cases_of_no_reset h (not_exists.mp hr)
    · simp at hne
    · refine .inr ⟨w, rest, hw, ?_⟩
      rw [← classOf_decode]
      obtain ⟨n, v, hi⟩ | ⟨v, hi, hlift⟩ := press_or_lift_of_held_voice_changes (s := { s with pending := rest }) hp hx hne
      · exact .inl (by rw [hi, classOf])
      · refine .inr ⟨by rw [hi, classOf], ?_⟩
        rw [data2Of_of_decode_ccSustain hi]
        exact (pedalHeld_eq_false_iff v).mp hlift

end Sys2Proof.Machine
end

section
/-! The message classes: which words each of them has, and the whole next state of each (R61 to R71). -/

namespace Sys2Proof.Machine

/-- Settles O2: the step runs the decoded instruction, and that is PROCESS_MESSAGE of the word. -/
theorem stepIsProcessMessage : Obligations.StepIsProcessMessage := fun _ _ _ => step_messageEvent

/-! ### Words with both data bytes in range (R43, R44) -/

theorem byteOf_ofNat_toNat {b : Byte} (h : b.toNat ≤ 127) : byteOf (BitVec.ofNat 7 b.toNat) = b :=
  byteOf_low7_of_msb (by rw [msb_iff_lt]; omega)

/-- An accepted word with both data bytes in range is put together from its status and its two operands (R41 to R44). -/
theorem packMsg_operands {c st : Nibble} {w : Msg} (hch : channelOf w = c.toNat) (hst : statusOf w = st.toNat)
    (h1 : data1Of w ≤ 127) (h2 : data2Of w ≤ 127) :
    packMsg (byteOf (BitVec.ofNat 7 (data2Of w))) (byteOf (BitVec.ofNat 7 (data1Of w))) st c = w := by
  rw [channelOf_eq, BitVec.toNat_inj] at hch
  rw [statusOf_eq, BitVec.toNat_inj] at hst
  rw [data1Of_eq] at h1 ⊢
  rw [data2Of_eq] at h2 ⊢
  rw [byteOf_ofNat_toNat h1, byteOf_ofNat_toNat h2, ← hch, ← hst, packMsg_fields]

/-- Two operands are different where the data bytes in range they were read from are. -/
theorem ofNat_operand_ne {k m : Nat} (hk : k ≤ 127) (hm : m ≤ 127) (h : k ≠ m) :
    BitVec.ofNat 7 k ≠ BitVec.ofNat 7 m := by
  rw [← BitVec.toNat_ne_iff_ne, BitVec.toNat_ofNat, BitVec.toNat_ofNat]
  omega

/-! ### The classes with no effect: DISCARD, CC_OTHER and IGNORED -/

/-- An instruction of these three classes is none of those that write a register (R62, R68, R70). -/
theorem exec_of_class_without_effect {i : Instr} (h : classOf i = .discard ∨ classOf i = .ccOther ∨ classOf i = .ignored)
    (s : State) : exec i s = .next s := by
  obtain e | ⟨w, hw, -⟩ | ⟨n, v, rfl, -⟩ | ⟨n, ⟨v, rfl⟩ | rfl, -⟩ | ⟨v, rfl, -⟩ | ⟨l, m, rfl, -⟩ := exec_cases i s
  · exact e
  · simp [classOf_of_faultingWord hw] at h
  all_goals simp [classOf] at h

/-- Settles O8: the first row of the class table is the channel filter, and its class has no effect. -/
theorem discardHasNoEffect : Obligations.DiscardHasNoEffect :=
  ⟨fun c w hch => (classOf_decode c w).trans (if_pos hch), fun _ s hclass _ =>
    exec_of_class_without_effect (.inl hclass) s⟩

/-- Settles O14: the word is the encoding of a well-formed CC_OTHER, which has no effect. -/
theorem otherControllersHaveNoEffect : Obligations.OtherControllersHaveNoEffect := by
  refine ⟨fun c w hch hst h1 h2 hk => ?_, fun k v s _ => exec_of_class_without_effect (.inr (.inl rfl)) s⟩
  have hwf : BitVec.ofNat 7 (data1Of w) ≠ Config.sustainCc := ofNat_operand_ne h1 (by decide) hk
  exact decode_eq_of_encode_eq (bne_iff_ne.mpr hwf) (packMsg_operands hch hst h1 h2)

/-- The last row of the class table: no row before it has one of these statuses (R45, R70). -/
theorem classOfWord_ignored {c : Nibble} {w : Msg} (hch : channelOf w = c.toNat)
    (hst : statusOf w ≤ 0x7 ∨ statusOf w = 0xA ∨ statusOf w = 0xC ∨ statusOf w = 0xD ∨ statusOf w = 0xF) :
    classOfWord c w = .ignored := by
  have h8 : statusOf w ≠ 0x8 := by omega
  have h9 : statusOf w ≠ 0x9 := by omega
  have hB : statusOf w ≠ 0xB := by omega
  have hE : statusOf w ≠ 0xE := by omega
  simp [classOfWord, BadData, hch, h8, h9, hB, hE]

/-- Settles O16: the word reaches the last row of the class table, and its class has no effect. -/
theorem ignoredHasNoEffect : Obligations.IgnoredHasNoEffect :=
  ⟨fun c w hch hst => (classOf_decode c w).trans (classOfWord_ignored hch hst), fun _ s hclass =>
    exec_of_class_without_effect (.inr (.inr hclass)) s⟩

/-! ### INVALID_DATA -/

/-- The second row of the class table (R45, R63). -/
theorem classOfWord_invalidData {c : Nibble} {w : Msg} (hch : channelOf w = c.toNat) (hbad : BadData w) :
    classOfWord c w = .invalidData := by
  rw [classOfWord, if_neg (not_not.mpr hch), if_pos hbad]

/-- The word an INVALID_DATA instruction records is its own encoding (R46, R63). -/
theorem faultingWord_eq_encode {i : Instr} (h : classOf i = .invalidData) (c : Nibble) :
    faultingWord c i = some (encode c i) := by
  cases i with
  | invalidStatus8Data1 | invalidStatus8Data2 | invalidStatus9Data1 | invalidStatus9Data2
  | invalidStatusBData1 | invalidStatusBData2 | invalidStatusEData1 | invalidStatusEData2 => rfl
  | _ => cases h

/-- An instruction with a faulting word raises InvalidArgument with it (R63). -/
theorem exec_of_faultingWord {i : Instr} {w : Msg} {s : State} (h : faultingWord s.listenCh i = some w) :
    exec i s = .next (raiseInvalidArgument w s) := by
  cases i with
  | invalidStatus8Data1 | invalidStatus8Data2 | invalidStatus9Data1 | invalidStatus9Data2
  | invalidStatusBData1 | invalidStatusBData2 | invalidStatusEData1 | invalidStatusEData2 =>
    obtain rfl := Option.some.inj h
    rfl
  | _ => cases h

/-- Settles O9: the recorded word is the encoding of what the word decodes to, which is the word (O21), and the exception
writes FAULT and FAULT_WORD alone. -/
theorem invalidDataRaisesInvalidArgument : Obligations.InvalidDataRaisesInvalidArgument := by
  refine ⟨fun c w hch hbad => ?_, fun i w s h => ?_⟩
  · have hclass : classOf (decode c w) = .invalidData := (classOf_decode c w).trans (classOfWord_invalidData hch hbad)
    rw [faultingWord_eq_encode hclass, (encodeOfDecode c w).2]
  · rw [exec_of_faultingWord h, raiseInvalidArgument_eq]

/-! ### The note messages -/

/-- RELEASE is the removal and then the case split of last-note priority (R53, R54). -/
theorem release_eq_afterRelease (n : Note) (s : State) : release n s = afterRelease n s := by
  rw [release_eq, afterRelease]
  obtain ⟨hp, h⟩ | ⟨hp, top, htop, h⟩ | ⟨hp, hempty, h⟩ := select_cases { s with stack := s.stack.erase n } <;> rw [h]
  · rw [if_pos hp]
  · rw [if_neg (Bool.eq_false_iff.mp hp), htop]
  · have hnone : (s.stack.erase n).getLast? = none := List.getLast?_eq_none_iff.mpr hempty
    rw [if_neg (Bool.eq_false_iff.mp hp), hnone]

/-- Settles O10: the word is the encoding of NOTE_OFF, which is RELEASE. -/
theorem noteOffReleasesNote : Obligations.NoteOffReleasesNote :=
  ⟨fun _ _ hch hst h1 h2 => decode_eq_of_encode_eq rfl (packMsg_operands hch hst h1 h2), fun n _ s =>
    congrArg _ (release_eq_afterRelease n s)⟩

/-- Settles O11: the word is the encoding of a NOTE_ON with a velocity, which is PRESS. -/
theorem noteOnPressesNote : Obligations.NoteOnPressesNote := by
  refine ⟨fun c w hch hst h1 h2 hv => ?_, fun n v s _ => congrArg _ (press_eq n s)⟩
  have hwf : BitVec.ofNat 7 (data2Of w) ≠ 0 := ofNat_operand_ne h2 (Nat.zero_le _) hv
  exact decode_eq_of_encode_eq (bne_iff_ne.mpr hwf) (packMsg_operands hch hst h1 h2)

/-- Settles O12: the word is the encoding of NOTE_ON_V0, which is RELEASE. -/
theorem noteOnVelocityZeroReleasesNote : Obligations.NoteOnVelocityZeroReleasesNote := by
  refine ⟨fun c w hch hst h1 hv => ?_, fun n s => congrArg _ (release_eq_afterRelease n s)⟩
  have hw := packMsg_operands (st := 0x9) hch hst h1 (hv.trans_le (Nat.zero_le _))
  rw [hv] at hw
  exact decode_eq_of_encode_eq rfl hw

/-- Settles O42: the words are those of two instructions with one meaning. -/
theorem zeroVelocityNoteOnIsNoteOff : Obligations.ZeroVelocityNoteOnIsNoteOff := fun s n v rest =>
  step_encode_congr s rest (i := .noteOnV0 n) (j := .noteOff n v) rfl rfl fun _ => rfl

/-! ### The pedal and the pitch wheel -/

theorem pedalHeld_eq_true_iff (v : Data7) : pedalHeld v = true ↔ 64 ≤ v.toNat := decide_eq_true_iff

/-- CC_SUSTAIN writes the pedal and then re-evaluates (R67). -/
theorem exec_ccSustain (v : Data7) (s : State) :
    exec (.ccSustain v) s = .next (select { s with pedal := pedalHeld v }) :=
  congrArg Host.Outcome.next (sustain_eq (pedalHeld v) s)

/-- Settles O13: the word is the encoding of CC_SUSTAIN, which is one SELECT with the pedal written: a held pedal blocks it,
and with the pedal up it is last-note priority. -/
theorem sustainSetsPedalAndReevaluates : Obligations.SustainSetsPedalAndReevaluates := by
  refine ⟨fun c w hch hst hk h2 => ?_, fun v s => (exec_ccSustain v s).trans (congrArg _ ?_)⟩
  · have hw := packMsg_operands (st := 0xB) hch hst (hk.trans_le (by decide)) h2
    rw [hk] at hw
    exact decode_eq_of_encode_eq rfl hw
  · split
    · next hv =>
      rw [(pedalHeld_eq_true_iff v).mpr hv]
      exact select_held rfl
    · next hv =>
      rw [(pedalHeld_eq_false_iff v).mpr (not_le.mp hv)]
      split
      · next htop => exact select_top (s := { s with pedal := false }) rfl htop
      · next hnone => exact select_empty rfl (List.getLast?_eq_none_iff.mp hnone)

/-- Settles O15: the word is the encoding of PITCH_WHEEL, which is SET_PITCH_WHEEL. -/
theorem pitchWheelStoresCoarseByte : Obligations.PitchWheelStoresCoarseByte :=
  ⟨fun _ _ hch hst h1 h2 => decode_eq_of_encode_eq rfl (packMsg_operands hch hst h1 h2), fun _ m s =>
    congrArg Host.Outcome.next (setPitchWheel_eq m s)⟩

end Sys2Proof.Machine
end

section
/-! FAULT and FAULT_WORD steer nothing: every operation takes two states that agree on the other registers to two that still
agree on them (R61, R84). -/

namespace Sys2Proof.Machine

/-- Each clause of SELECT reads PEDAL and the stack alone (R54). -/
theorem agreeButFault_select {s s' : State} (h : AgreeButFault s s') : AgreeButFault (select s) (select s') := by
  obtain ⟨hcur, hgate, hpedal, hpw, hstack, hch, hpending⟩ := h
  obtain ⟨hp, h⟩ | ⟨hp, n, htop, h⟩ | ⟨hp, hempty, h⟩ := select_cases s <;> rw [h]
  · rw [select_held (hpedal ▸ hp)]
    exact ⟨hcur, hgate, hpedal, hpw, hstack, hch, hpending⟩
  · rw [select_top (hpedal ▸ hp) (hstack ▸ htop)]
    exact ⟨rfl, hgate, hpedal, hpw, hstack, hch, hpending⟩
  · rw [select_empty (hpedal ▸ hp) (hstack ▸ hempty)]
    exact ⟨hcur, rfl, hpedal, hpw, hstack, hch, hpending⟩

theorem agreeButFault_press {s s' : State} (h : AgreeButFault s s') (n : Note) :
    AgreeButFault (press n s) (press n s') := by
  obtain ⟨-, -, hpedal, hpw, hstack, hch, hpending⟩ := h
  rw [press_eq, press_eq, hstack]
  exact ⟨rfl, rfl, hpedal, hpw, rfl, hch, hpending⟩

theorem agreeButFault_release {s s' : State} (h : AgreeButFault s s') (n : Note) :
    AgreeButFault (release n s) (release n s') := by
  obtain ⟨hcur, hgate, hpedal, hpw, hstack, hch, hpending⟩ := h
  rw [release_eq, release_eq, hstack]
  exact agreeButFault_select ⟨hcur, hgate, hpedal, hpw, rfl, hch, hpending⟩

theorem agreeButFault_sustain {s s' : State} (h : AgreeButFault s s') (held : Bool) :
    AgreeButFault (releaseNone (setPedal held s)) (releaseNone (setPedal held s')) := by
  obtain ⟨hcur, hgate, -, hpw, hstack, hch, hpending⟩ := h
  rw [sustain_eq, sustain_eq]
  exact agreeButFault_select ⟨hcur, hgate, rfl, hpw, hstack, hch, hpending⟩

theorem agreeButFault_raiseInvalidArgument {s s' : State} (h : AgreeButFault s s') (w : Msg) :
    AgreeButFault (raiseInvalidArgument w s) (raiseInvalidArgument w s') := by
  rw [raiseInvalidArgument_eq, raiseInvalidArgument_eq]
  exact h

theorem agreeButFault_setPitchWheel {s s' : State} (h : AgreeButFault s s') (m : Data7) :
    AgreeButFault (setPitchWheel m s) (setPitchWheel m s') := by
  obtain ⟨hcur, hgate, hpedal, -, hstack, hch, hpending⟩ := h
  exact ⟨hcur, hgate, hpedal, rfl, hstack, hch, hpending⟩

/-- The stages of PROCESS_MESSAGE choose their operation by the word and LISTEN_CH (R61). -/
theorem agreeButFault_processMessage {s s' : State} (h : AgreeButFault s s') (w : Msg) :
    AgreeButFault (processMessage w s) (processMessage w s') := by
  have hch : s.listenCh = s'.listenCh := by
    obtain ⟨-, -, -, -, -, hch, -⟩ := h
    exact hch
  simp only [processMessage, hch]
  split_ifs
  · exact h
  · exact agreeButFault_raiseInvalidArgument h w
  · exact agreeButFault_release h _
  · exact agreeButFault_press h _
  · exact agreeButFault_release h _
  · exact agreeButFault_sustain h _
  · exact h
  · exact agreeButFault_setPitchWheel h _
  · exact h

/-- Settles O33: the second block takes the same event, and each event keeps the agreement. -/
theorem faultDoesNotGateProcessing : Obligations.FaultDoesNotGateProcessing := by
  intro s s' t hagree h
  obtain ⟨hcur, hgate, hpedal, hpw, hstack, hch, hpending⟩ := hagree
  have htaken (rest : List HostEvent) : AgreeButFault { s with pending := rest } { s' with pending := rest } :=
    ⟨hcur, hgate, hpedal, hpw, hstack, hch, rfl⟩
  obtain ⟨hp, rfl⟩ | ⟨e, rest, hp, ⟨w, rfl, hx⟩ | ⟨rfl, rfl⟩ | ⟨rfl, rfl⟩ | ⟨rfl, rfl⟩⟩ := step_cases h
    <;> rw [hpending] at hp
  · exact ⟨s', step_idle hp, hcur, hgate, hpedal, hpw, hstack, hch, hpending⟩
  · have ht := (exec_decode w { s with pending := rest }).symm.trans hx
    cases ht
    exact ⟨_, step_messageEvent hp, agreeButFault_processMessage (htaken rest) w⟩
  · exact ⟨_, step_cons hp, rfl, rfl, rfl, rfl, rfl, hch, rfl⟩
  · exact ⟨_, step_cons hp, htaken rest⟩
  · exact ⟨_, (step_cons hp).trans (if_pos hch), htaken rest⟩

end Sys2Proof.Machine
end

section
/-! Messages of other channels (R62). -/

namespace Sys2Proof.Machine

/-- The channel filter of PROCESS_MESSAGE (R61, R62). -/
theorem processMessage_of_other_channel {w : Msg} {s : State} (h : channelOf w ≠ s.listenCh.toNat) :
    processMessage w s = s :=
  if_pos h

theorem processMessage_listenCh (w : Msg) (s : State) : (processMessage w s).listenCh = s.listenCh :=
  (exec_keeps_listenCh_pending (exec_decode w s)).1

/-- The messages of the listening channel alone decide the state (R62). -/
theorem processMessages_filter (msgs : List Msg) (s : State) :
    processMessages (msgs.filter fun w => channelOf w == s.listenCh.toNat) s = processMessages msgs s := by
  induction msgs generalizing s with
  | nil => rfl
  | cons w msgs ih =>
    by_cases hw : channelOf w = s.listenCh.toNat
    · rw [List.filter_cons, if_pos (beq_iff_eq.mpr hw)]
      have := ih (processMessage w s)
      rwa [processMessage_listenCh] at this
    · rw [List.filter_cons, if_neg (mt beq_iff_eq.mp hw), ih]
      exact congrArg (processMessages msgs) (processMessage_of_other_channel hw).symm

/-- A tick with nothing waiting before it (R37). -/
theorem tick_eq_processMessages (fmt : Config.PitchFormat) (msgs : List Msg) {s : State} (hp : s.pending = []) :
    tick fmt msgs s = .ok (processMessages msgs s, computeSignals fmt (processMessages msgs s)) :=
  tickRunsMessagesThenReadsOutputs fmt msgs s hp

/-- Settles O46: a tick is its messages in order and then a reading of the state they leave. -/
theorem otherChannelsAreInvisible : Obligations.OtherChannelsAreInvisible := by
  intro fmt msgs s hp
  rw [tick_eq_processMessages fmt _ hp, tick_eq_processMessages fmt _ hp, processMessages_filter]

end Sys2Proof.Machine
end

section
/-! The messages that stand for the source's public operations (R72). -/

namespace Sys2Proof.Machine

/-! ### Arguments and their fields -/

/-- An argument that is the value of a field's bits is presented as those bits. -/
theorem fieldArg_toNat {k : Nat} (b : BitVec k) : fieldArg k (b.toNat : Int) = .ok b := by
  rw [fieldArg_fits (Int.natCast_nonneg _) (by exact_mod_cast b.isLt), BitVec.ofInt_natCast, BitVec.ofNat_toNat,
    BitVec.setWidth_eq]

/-- An argument in 0..127 is presented as a data byte in range (R43). -/
theorem fieldArg_operand (v : Data7) : fieldArg 8 (v.toNat : Int) = .ok (byteOf v) := by
  rw [← toNat_byteOf, fieldArg_toNat]

/-- An argument of 128 to 255 is presented as a data byte out of range (R43). -/
theorem msb_of_bad_argument {x : Int} (h : 127 < x) (h' : x < 256) : (BitVec.ofInt 8 x).msb = true := by
  rw [msb_iff_lt, BitVec.toNat_ofInt]
  omega

/-- Where one argument is refused at the interface, so is the operation: an argument before it fits or is refused alike. -/
theorem fieldArg_bind_refused {α : Type} {k : Nat} {x : Int} {f : BitVec k → Except Refusal α}
    (h : 0 ≤ x → x < 2 ^ k → ∀ b, f b = .error .argumentOutOfRange) :
    (fieldArg k x >>= f) = .error .argumentOutOfRange := by
  by_cases hx : 0 ≤ x ∧ x < 2 ^ k
  · obtain ⟨h0, hk⟩ := hx
    rw [fieldArg_fits h0 hk]
    exact h h0 hk _
  · rw [fieldArg_refused (by omega)]
    rfl

/-- A word as the sum of its fields (R41, R42). -/
theorem toNat_eq_fields (w : Msg) :
    w.toNat = data2Of w * 65536 + data1Of w * 256 + statusOf w * 16 + channelOf w := by
  have := w.isLt
  unfold data2Of data1Of statusOf channelOf
  omega

theorem toNat_packMsg (d2 d1 : Byte) (st ch : Nibble) :
    (packMsg d2 d1 st ch).toNat = d2.toNat * 65536 + d1.toNat * 256 + st.toNat * 16 + ch.toNat := by
  rw [toNat_eq_fields, data2Of_packMsg, data1Of_packMsg, statusOf_packMsg, channelOf_packMsg]

/-! ### The operations in range -/

/-- The message of a source operation runs the instruction it encodes, on the state it is delivered to. -/
theorem step_message_of_exec {s t : State} {i : Instr} (hwf : WellFormed s.listenCh i = true) (h : exec i s = .next t) :
    step { s with pending := messageEvent (encode s.listenCh i) :: s.pending } = .next t :=
  (step_encode s s.pending hwf).trans h

/-- With the pedal up already, lifting it changes nothing (R57). -/
theorem setPedal_false_of_up {s : State} (h : s.pedal = false) : setPedal false s = s := by
  rw [setPedal_eq, if_neg (by simp [h]), ← h]

theorem pedalHeld_on_off (b : Bool) : pedalHeld (if b then 127 else 0) = b := by
  cases b <;> rfl

/-- Settles O48: each message is the encoding of the instruction whose meaning is the operation; CC_SUSTAIN runs SELECT once
more than SET_PEDAL, to no effect in a state that meets the invariant (R58). -/
theorem sourceOperationsAreMessages : Obligations.SourceOperationsAreMessages := by
  intro s any hinv
  refine ⟨fun n hany => ?_, fun n => ?_, fun hup hany => ?_, fun hheld => ?_, fun b => ?_, fun m => ?_,
    fun ch st d1 d2 => ?_⟩
  · refine ⟨encode s.listenCh (.noteOn n any), ?_, step_message_of_exec (bne_iff_ne.mpr hany) rfl⟩
    rw [SourceOp.message, fieldArg_operand]
    rfl
  · refine ⟨encode s.listenCh (.noteOff n any), ?_, step_message_of_exec rfl rfl⟩
    rw [SourceOp.message, fieldArg_operand]
    rfl
  · refine ⟨encode s.listenCh (.ccSustain any), ?_, step_message_of_exec rfl ?_⟩
    · rw [SourceOp.message, hup]
      rfl
    · have hlow : pedalHeld any = false := (pedalHeld_eq_false_iff any).mpr hany
      show Host.Outcome.next (releaseNone (setPedal (pedalHeld any) s)) = _
      rw [hlow, setPedal_false_of_up hup]
  · rw [SourceOp.message, hheld]
    exact ⟨rfl, select_held hheld⟩
  · refine ⟨encode s.listenCh (.ccSustain (if b then 127 else 0)), ?_, step_message_of_exec rfl ?_⟩
    · cases b <;> rfl
    · have hvalue : decide (64 ≤ (if b then 127 else 0 : Data7).toNat) = b := pedalHeld_on_off b
      rw [sustainEqualsSetPedal s _ hinv, hvalue]
  · refine ⟨encode s.listenCh (.pitchWheel any m), ?_, step_message_of_exec rfl rfl⟩
    rw [SourceOp.message, fieldArg_operand]
    rfl
  · refine ⟨packMsg d2 d1 st ch, ?_, toNat_packMsg d2 d1 st ch⟩
    rw [SourceOp.message, fieldArg_toNat, fieldArg_toNat, fieldArg_toNat, fieldArg_toNat]
    rfl

/-! ### Arguments out of range -/

/-- An accepted word of a range-checked status with a data byte out of range is an INVALID_DATA (R63). -/
theorem classOfWord_bad_packMsg {st : Nibble} {d2 d1 : Byte} (hst : rangeChecked st = true)
    (hd : d1.msb = true ∨ d2.msb = true) (c : Nibble) : classOfWord c (packMsg d2 d1 st c) = .invalidData :=
  classOfWord_invalidData (channelOf_packMsg d2 d1 st c) ((badData_packMsg d2 d1 st c).mpr ⟨hst, hd⟩)

/-- Settles O49: an argument that fits its field puts its own bits into the word, and the first one that does not is
refused. -/
theorem outOfRangeArgumentsAreRejected : Obligations.OutOfRangeArgumentsAreRejected := by
  intro c pedal any
  refine ⟨fun x => ⟨fun hlow hhigh => ?_, fun hout => ?_⟩, fun channel status data1 data2 =>
    ⟨fun hchannel hstatus h1 h1' h2 h2' hbad => ?_, fun hout => ?_⟩⟩
  · have hfits : fieldArg 8 x = .ok (BitVec.ofInt 8 x) := fieldArg_fits (by omega) (by omega)
    have hmsb : (BitVec.ofInt 8 x).msb = true := msb_of_bad_argument hlow hhigh
    refine ⟨⟨_, ?_, classOfWord_bad_packMsg (st := 0x9) (d2 := byteOf any) rfl (.inl hmsb) c⟩,
      ⟨_, ?_, classOfWord_bad_packMsg (st := 0x8) (d2 := byteOf any) rfl (.inl hmsb) c⟩,
      ⟨_, ?_, classOfWord_bad_packMsg (st := 0xE) (d1 := byteOf any) rfl (.inr hmsb) c⟩⟩ <;>
    · rw [SourceOp.message, hfits]
      rfl
  · have hrefused : fieldArg 8 x = .error .argumentOutOfRange := fieldArg_refused (by omega)
    refine ⟨?_, ?_, ?_⟩ <;>
    · rw [SourceOp.message, hrefused]
      rfl
  · have hst : rangeChecked (BitVec.ofInt 4 status) = true := by
      obtain rfl | rfl | rfl | rfl := hstatus <;> rfl
    have hd : (BitVec.ofInt 8 data1).msb = true ∨ (BitVec.ofInt 8 data2).msb = true :=
      hbad.imp (msb_of_bad_argument · h1') (msb_of_bad_argument · h2')
    refine ⟨_, ?_, classOfWord_bad_packMsg hst hd c⟩
    rw [SourceOp.message, hchannel, fieldArg_toNat, fieldArg_fits (by omega) (by omega : status < 2 ^ 4),
      fieldArg_fits h1 h1', fieldArg_fits h2 h2']
    rfl
  · exact fieldArg_bind_refused fun hch hch' _ => fieldArg_bind_refused fun hst hst' _ =>
      fieldArg_bind_refused fun h1 h1' _ => fieldArg_bind_refused fun h2 h2' _ => absurd hout (by omega)

end Sys2Proof.Machine
end

section
/-! The output stage (44_signals.md): a reading of the outputs, PITCH_NUM, and the pitch voltage in exact arithmetic. -/

namespace Sys2Proof.Machine

/-- Settles O5: a reading takes its own event, and no output depends on the events that wait. -/
theorem readingOutputsWritesNothing : Obligations.ReadingOutputsWritesNothing := fun s rest _ hp =>
  ⟨{ s with pending := rest }, step_cons hp, rfl, rfl⟩

/-- PITCH_NUM as arithmetic on the two registers: the whole number fits 16 bits (R77). -/
theorem pitchNum_toInt (s : State) :
    (pitchNum s).toInt = 32 * ((s.cur.toNat : Int) - 64) + ((s.pw.toNat : Int) - 64) := by
  have hcur : s.cur.toNat < 128 := s.cur.isLt
  have hpw : s.pw.toNat < 128 := s.pw.isLt
  rw [pitchNum, BitVec.toInt_ofInt]
  exact Int.bmod_eq_of_le (by simp [pitchInt, Config.noteRef, Config.wheelCenter]; omega)
    (by simp [pitchInt, Config.noteRef, Config.wheelCenter]; omega)

/-- The pitch voltage as a fraction over 384 (R77). -/
theorem pitchExact_eq (s : State) :
    pitchExact s = (32 * ((s.cur.toNat : Rat) - 64) + ((s.pw.toNat : Rat) - 64)) / 384 := by
  rw [pitchExact, pitchNum_toInt]
  push_cast
  rfl

/-- The pitch voltage is the source's formula: both are the same fraction over 384 (R75). -/
theorem pitchExact_eq_pitchFormula (s : State) : pitchExact s = pitchFormula s.cur s.pw := by
  rw [pitchExact_eq, pitchFormula]
  ring

/-- Settles O51: the parameters of R76, and the pitch as a fraction over 384. -/
theorem signalsFollowSourceFormula : Obligations.SignalsFollowSourceFormula := fun s =>
  ⟨rfl, pitchExact_eq_pitchFormula s⟩

/-- Settles O52: the range and its two ends are linear arithmetic on the values of the two registers. -/
theorem pitchNumIsExact : Obligations.PitchNumIsExact := by
  intro s
  have hcur : s.cur.toNat < 128 := s.cur.isLt
  have hpw : s.pw.toNat < 128 := s.pw.isLt
  have hnum := pitchNum_toInt s
  refine ⟨hnum, by omega, by omega, ?_, ?_, pitchExact_eq_pitchFormula s, fun _ => rfl⟩
  · simp only [BitVec.toNat_eq, BitVec.reduceToNat]
    omega
  · simp only [BitVec.toNat_eq, BitVec.reduceToNat]
    omega

/-- Settles O56: the pitch is linear in PW, with coefficient 1/384. -/
theorem wheelContribution : Obligations.WheelContribution := by
  intro s
  simp only [pitchExact_eq, BitVec.reduceToNat]
  push_cast
  exact ⟨by ring, by ring, by ring⟩

/-- Settles O57: PITCH_NUM is linear in CUR, with coefficient 32. -/
theorem semitoneAndOctaveSteps : Obligations.SemitoneAndOctaveSteps := by
  refine fun s n => ⟨?_, fun hn => ?_, fun hn => ?_⟩
  · simp [pitchExact_eq]
  · rw [pitchNum_toInt, pitchNum_toInt, hn]
    push_cast
    ring
  · rw [pitchExact_eq, pitchExact_eq, hn]
    push_cast
    ring

end Sys2Proof.Machine
end

section
/-! Rounding to an IEEE format, as arithmetic on rationals (44_signals.md R78): the binade and the significand of a value, and
the value of the bits put together from them. -/

namespace Sys2Proof.Machine

/-! ### The nearest whole number -/

/-- Rounding a quotient is off by at most half of the divisor, and by half of it only where the result is even. -/
theorem divNearestEven_remainder (a : Nat) {b : Nat} (hb : 0 < b) :
    2 * |(divNearestEven a b * b : Int) - a| ≤ b
      ∧ (2 * |(divNearestEven a b * b : Int) - a| = b → divNearestEven a b % 2 = 0) := by
  have hr : a % b < b := Nat.mod_lt a hb
  have hdivMod : ((a / b : Nat) : Int) * b + (a % b : Nat) = a := by exact_mod_cast Nat.div_add_mod' a b
  have hdown : ((a / b : Nat) * b : Int) - a = -(a % b : Nat) := by linarith
  have hup : ((a / b + 1 : Nat) * b : Int) - a = (b - a % b : Nat) := by
    push_cast [Nat.cast_sub hr.le] at hdivMod ⊢
    linarith
  simp only [divNearestEven]
  split_ifs <;> simp only [hdown, hup, abs_neg, Nat.abs_cast] <;> omega

theorem divNearestEven_error (a : Nat) {b : Nat} (hb : 0 < b) :
    |(divNearestEven a b : Rat) - a / b| ≤ 1 / 2
      ∧ (|(divNearestEven a b : Rat) - a / b| = 1 / 2 → divNearestEven a b % 2 = 0) := by
  obtain ⟨hle, heven⟩ := divNearestEven_remainder a hb
  have hb' : (0 : Rat) < b := by exact_mod_cast hb
  have herr : 2 * |(divNearestEven a b : Rat) - a / b| * b = (2 * |(divNearestEven a b * b : Int) - a| : Int) := by
    push_cast
    rw [mul_assoc, ← abs_of_pos hb', ← abs_mul, abs_of_pos hb', sub_mul, div_mul_cancel₀ _ hb'.ne']
  refine ⟨?_, fun h => heven ?_⟩
  · have : 2 * |(divNearestEven a b : Rat) - a / b| * b ≤ 1 * b := by
      rw [herr, one_mul]
      exact_mod_cast hle
    linarith [le_of_mul_le_mul_right this hb']
  · rw [h] at herr
    norm_num at herr
    exact_mod_cast herr.symm

/-- A whole number less than half a unit away is the rounded quotient. -/
theorem divNearestEven_eq {a b k : Nat} (hb : 0 < b) (hk : |(k : Rat) - a / b| < 1 / 2) : divNearestEven a b = k := by
  obtain ⟨hlow, hhigh⟩ := abs_le.mp (divNearestEven_error a hb).1
  obtain ⟨hklow, hkhigh⟩ := abs_lt.mp hk
  have hlt : divNearestEven a b < k + 1 := by exact_mod_cast (by linarith : (divNearestEven a b : Rat) < k + 1)
  have hgt : k < divNearestEven a b + 1 := by exact_mod_cast (by linarith : (k : Rat) < divNearestEven a b + 1)
  omega

/-! ### The binade -/

/-- Shifting a fraction left by `k` places, or right where `k` is negative. -/
theorem shift_div (a b : Nat) (k : Int) :
    ((a * 2 ^ k.toNat : Nat) : Rat) / (b * 2 ^ (-k).toNat : Nat) = a / b * 2 ^ k := by
  obtain ⟨n, rfl | rfl⟩ := k.eq_nat_or_neg
  · simp [mul_div_right_comm]
  · simp [← div_eq_mul_inv, div_mul_eq_div_div]

theorem log_eq_iff {x : Rat} (hx : 0 < x) (e : Int) : Int.log 2 x = e ↔ (2 : Rat) ^ e ≤ x ∧ x < 2 ^ (e + 1) := by
  have hle := Int.zpow_le_iff_le_log (b := 2) (x := e) one_lt_two hx
  have hlt := Int.lt_zpow_iff_log_lt (b := 2) (x := e + 1) one_lt_two hx
  push_cast at hle hlt
  rw [hle, hlt]
  omega

/-- The difference of the bit lengths is the exponent of a fraction, or one more than it. -/
theorem div_mem_of_log2 {a b : Nat} (ha : 0 < a) (hb : 0 < b) :
    (2 : Rat) ^ ((Nat.log2 a : Int) - Nat.log2 b - 1) ≤ a / b
      ∧ (a : Rat) / b < 2 ^ ((Nat.log2 a : Int) - Nat.log2 b + 1) := by
  have haLow : (2 ^ Nat.log2 a : Rat) ≤ a := by exact_mod_cast Nat.log2_self_le ha.ne'
  have haHigh : (a : Rat) < 2 ^ (Nat.log2 a + 1) := by exact_mod_cast Nat.lt_log2_self
  have hbLow : (2 ^ Nat.log2 b : Rat) ≤ b := by exact_mod_cast Nat.log2_self_le hb.ne'
  have hbHigh : (b : Rat) < 2 ^ (Nat.log2 b + 1) := by exact_mod_cast Nat.lt_log2_self
  have hpos : (0 : Rat) < b := by exact_mod_cast hb
  constructor
  · calc (2 : Rat) ^ ((Nat.log2 a : Int) - Nat.log2 b - 1) = 2 ^ Nat.log2 a / 2 ^ (Nat.log2 b + 1) := by
          rw [sub_sub, zpow_sub₀ two_ne_zero]
          norm_cast
      _ ≤ a / b := div_le_div₀ (Nat.cast_nonneg a) haLow hpos hbHigh.le
  · calc (a : Rat) / b < 2 ^ (Nat.log2 a + 1) / 2 ^ Nat.log2 b :=
          div_lt_div₀ haHigh hbLow (by positivity) (by positivity)
      _ = 2 ^ ((Nat.log2 a : Int) - Nat.log2 b + 1) := by
          rw [sub_add_eq_add_sub, zpow_sub₀ two_ne_zero]
          norm_cast

theorem binaryExponent_eq_log {a b : Nat} (ha : 0 < a) (hb : 0 < b) : binaryExponent a b = Int.log 2 ((a : Rat) / b) := by
  obtain ⟨hlow, hhigh⟩ := div_mem_of_log2 ha hb
  set e : Int := (Nat.log2 a : Int) - (Nat.log2 b : Int) with he
  have hcmp : a * 2 ^ (-e).toNat < b * 2 ^ e.toNat ↔ (a : Rat) / b < 2 ^ e := by
    have hshift := shift_div a b (-e)
    rw [neg_neg, zpow_neg, ← div_eq_mul_inv] at hshift
    have hpos : (0 : Rat) < (b * 2 ^ e.toNat : Nat) := by positivity
    rw [← div_lt_one (zpow_pos two_pos e : (0 : Rat) < 2 ^ e), ← hshift, div_lt_one hpos, Nat.cast_lt]
  symm
  rw [log_eq_iff (by positivity), binaryExponent, ← he]
  simp only [hcmp]
  split_ifs with hlt
  · exact ⟨hlow, by rwa [sub_add_cancel]⟩
  · exact ⟨not_lt.mp hlt, hhigh⟩

/-- The two parts of a fraction in lowest terms. -/
theorem abs_eq_natAbs_div (q : Rat) : |q| = (q.num.natAbs : Rat) / q.den := by
  rw [Nat.cast_natAbs, Int.cast_abs, ← Nat.abs_cast q.den, ← abs_div, Rat.num_div_den]

/-! ### The format -/

/-- A format with room for a hidden bit, a sign and an exponent. -/
structure IeeeFormat.Interchange (f : IeeeFormat) : Prop where
  two_le_precision : 2 ≤ f.precision
  precision_lt_width : f.precision < f.width

theorem IeeeFormat.Interchange.hidden_bit {f : IeeeFormat} (hf : f.Interchange) :
    2 ^ f.precision = 2 * 2 ^ (f.precision - 1) := by
  obtain ⟨hprec, -⟩ := hf
  rw [← pow_succ', Nat.sub_add_cancel (by omega)]

theorem IeeeFormat.Interchange.sign_place {f : IeeeFormat} (hf : f.Interchange) :
    2 ^ (f.width - 1) = 2 ^ (f.precision - 1) * 2 ^ (f.width - f.precision) := by
  obtain ⟨hprec, hwidth⟩ := hf
  rw [← pow_add]
  congr 1
  omega

theorem IeeeFormat.Interchange.two_mul_sign_place {f : IeeeFormat} (hf : f.Interchange) :
    2 ^ f.width = 2 * 2 ^ (f.width - 1) := by
  obtain ⟨hprec, hwidth⟩ := hf
  rw [← pow_succ', Nat.sub_add_cancel (by omega)]

/-! ### The significand -/

/-- One unit in the last place of the binade of `q`. -/
def ulp (f : IeeeFormat) (q : Rat) : Rat := 2 ^ (Int.log 2 |q| - ((f.precision : Int) - 1))

/-- The magnitude of `q` in units in the last place, before rounding. -/
def exactSignificand (f : IeeeFormat) (q : Rat) : Rat := |q| / ulp f q

/-- The magnitude of `q` in units in the last place, rounded. -/
def significand (f : IeeeFormat) (q : Rat) : Nat := roundedSignificand f (Int.log 2 |q|) q.num.natAbs q.den

/-- The exponent field of the binade of `q`. -/
def exponentField (f : IeeeFormat) (q : Rat) : Nat := (Int.log 2 |q| + (f.bias : Int)).toNat

theorem ulp_pos (f : IeeeFormat) (q : Rat) : 0 < ulp f q := zpow_pos two_pos _

theorem exactSignificand_mul_ulp (f : IeeeFormat) (q : Rat) : exactSignificand f q * ulp f q = |q| :=
  div_mul_cancel₀ _ (ulp_pos f q).ne'

/-- The significand is a rounded quotient, and the exact one is that quotient. -/
theorem exists_significand_quotient (f : IeeeFormat) (q : Rat) :
    ∃ a b : Nat, 0 < b ∧ significand f q = divNearestEven a b ∧ exactSignificand f q = (a : Rat) / b := by
  refine ⟨_, _, ?_, rfl, ?_⟩
  · have := q.den_pos
    positivity
  · rw [shift_div, ← abs_eq_natAbs_div, exactSignificand, ulp, div_eq_mul_inv, ← zpow_neg, neg_sub]

theorem significand_error (f : IeeeFormat) (q : Rat) :
    |(significand f q : Rat) - exactSignificand f q| ≤ 1 / 2
      ∧ (|(significand f q : Rat) - exactSignificand f q| = 1 / 2 → significand f q % 2 = 0) := by
  obtain ⟨a, b, hb, hsig, hexact⟩ := exists_significand_quotient f q
  rw [hsig, hexact]
  exact divNearestEven_error a hb

theorem significand_eq {f : IeeeFormat} {q : Rat} {k : Nat} (hk : |(k : Rat) - exactSignificand f q| < 1 / 2) :
    significand f q = k := by
  obtain ⟨a, b, hb, hsig, hexact⟩ := exists_significand_quotient f q
  rw [hexact] at hk
  rw [hsig, divNearestEven_eq hb hk]

@[simp] theorem roundNearestEven_zero (f : IeeeFormat) : roundNearestEven f 0 = 0 := rfl

@[simp] theorem ieeeValue_zero (f : IeeeFormat) : ieeeValue f 0 = 0 := by
  simp [ieeeValue, ieeeExponentField, ieeeFraction]

theorem roundNearestEven_eq (f : IeeeFormat) {q : Rat} (hq : q ≠ 0) :
    roundNearestEven f q = (if q < 0 then 2 ^ (f.width - 1) else 0)
      + (exponentField f q * 2 ^ (f.precision - 1) + (significand f q - 2 ^ (f.precision - 1))) := by
  have hnum : 0 < q.num.natAbs := Int.natAbs_pos.mpr (Rat.num_ne_zero.mpr hq)
  simp only [roundNearestEven, roundMagnitude, if_neg hnum.ne', binaryExponent_eq_log hnum q.den_pos, Rat.num_neg,
    ← abs_eq_natAbs_div, exponentField, significand]

/-- A fraction over a power of two that has no bit below the last place of the binade of `q` is a whole number of units in
that place. -/
theorem exists_dyadic_exactSignificand {f : IeeeFormat} {q c : Rat} {a j : Nat} (h : c * |q| = a / 2 ^ j)
    (hj : (j : Int) ≤ (f.precision : Int) - 1 - Int.log 2 |q|) :
    ∃ k : Nat, c * exactSignificand f q = (a * 2 ^ k : Nat) := by
  obtain ⟨k, hk⟩ := Int.le.dest hj
  refine ⟨k, ?_⟩
  have hulp : ulp f q = (2 ^ j * 2 ^ k)⁻¹ := by
    rw [ulp, ← pow_add, ← zpow_natCast, ← zpow_neg]
    congr 1
    push_cast
    omega
  rw [exactSignificand, ← mul_div_assoc, h, hulp]
  push_cast
  field_simp

/-- The binade of `q`, from its first value to the first value of the next one. -/
theorem binade_mul_ulp {f : IeeeFormat} (hf : f.Interchange) (q : Rat) :
    2 ^ (f.precision - 1) * ulp f q = 2 ^ Int.log 2 |q| ∧ 2 ^ f.precision * ulp f q = 2 ^ (Int.log 2 |q| + 1) := by
  have hprec : ((f.precision - 1 : Nat) : Int) = f.precision - 1 := by
    have := hf.two_le_precision
    omega
  rw [ulp, ← zpow_natCast, ← zpow_natCast, ← zpow_add₀ two_ne_zero, ← zpow_add₀ two_ne_zero, hprec]
  exact ⟨by congr 1; ring, by congr 1; ring⟩

/-- `q'` lies in the binade of `q`, in units in the last place. -/
theorem log_eq_iff_div_ulp {f : IeeeFormat} (hf : f.Interchange) (q : Rat) {q' : Rat} (hq' : q' ≠ 0) :
    Int.log 2 |q'| = Int.log 2 |q| ↔ 2 ^ (f.precision - 1) ≤ |q'| / ulp f q ∧ |q'| / ulp f q < 2 ^ f.precision := by
  obtain ⟨hlow, hhigh⟩ := binade_mul_ulp hf q
  rw [log_eq_iff (abs_pos.mpr hq'), le_div_iff₀ (ulp_pos f q), div_lt_iff₀ (ulp_pos f q), hlow, hhigh]

theorem exactSignificand_mem {f : IeeeFormat} (hf : f.Interchange) {q : Rat} (hq : q ≠ 0) :
    2 ^ (f.precision - 1) ≤ exactSignificand f q ∧ exactSignificand f q < 2 ^ f.precision :=
  (log_eq_iff_div_ulp hf q hq).mp rfl

theorem significand_mem {f : IeeeFormat} (hf : f.Interchange) {q : Rat} (hq : q ≠ 0) :
    2 ^ (f.precision - 1) ≤ significand f q ∧ significand f q ≤ 2 ^ f.precision := by
  obtain ⟨hlow, hhigh⟩ := exactSignificand_mem hf hq
  obtain ⟨herrLow, herrHigh⟩ := abs_le.mp (significand_error f q).1
  have hlow' : ((2 ^ (f.precision - 1) : Nat) : Rat) < (significand f q + 1 : Nat) := by
    push_cast
    linarith
  have hhigh' : (significand f q : Rat) < (2 ^ f.precision + 1 : Nat) := by
    push_cast
    linarith
  exact ⟨Nat.lt_succ_iff.mp (by exact_mod_cast hlow'), Nat.lt_succ_iff.mp (by exact_mod_cast hhigh')⟩

/-! ### The fields of bits -/

/-- Bits put together from a sign, an exponent field and a fraction. -/
def ieeeBits (f : IeeeFormat) (negative : Bool) (exponent fraction : Nat) : Nat :=
  (if negative then 2 ^ (f.width - 1) else 0) + (exponent * 2 ^ (f.precision - 1) + fraction)

section
variable {f : IeeeFormat} (hf : f.Interchange) (negative : Bool) {exponent fraction : Nat}
  (he : exponent < 2 ^ (f.width - f.precision)) (ht : fraction < 2 ^ (f.precision - 1))
include hf

theorem ieeeBits_eq : ieeeBits f negative exponent fraction
    = 2 ^ (f.precision - 1) * ((if negative then 2 ^ (f.width - f.precision) else 0) + exponent) + fraction := by
  rw [ieeeBits, hf.sign_place]
  split_ifs <;> ring

include ht

theorem ieeeFraction_ieeeBits : ieeeFraction f (ieeeBits f negative exponent fraction) = fraction := by
  rw [ieeeFraction, ieeeBits_eq hf, Nat.mul_add_mod, Nat.mod_eq_of_lt ht]

include he

theorem ieeeExponentField_ieeeBits : ieeeExponentField f (ieeeBits f negative exponent fraction) = exponent := by
  rw [ieeeExponentField, ieeeBits_eq hf, Nat.mul_add_div (Nat.two_pow_pos _), Nat.div_eq_of_lt ht, add_zero]
  split_ifs
  · rw [Nat.add_mod_left, Nat.mod_eq_of_lt he]
  · rw [zero_add, Nat.mod_eq_of_lt he]

theorem magnitude_lt : exponent * 2 ^ (f.precision - 1) + fraction < 2 ^ (f.width - 1) := by
  calc exponent * 2 ^ (f.precision - 1) + fraction < (exponent + 1) * 2 ^ (f.precision - 1) := by linarith
    _ ≤ 2 ^ (f.width - f.precision) * 2 ^ (f.precision - 1) := Nat.mul_le_mul_right _ he
    _ = 2 ^ (f.width - 1) := by rw [hf.sign_place, mul_comm]

theorem ieeeBits_lt : ieeeBits f negative exponent fraction < 2 ^ f.width := by
  have := magnitude_lt hf he ht
  rw [ieeeBits, hf.two_mul_sign_place]
  split_ifs <;> omega

theorem ieeeSign_ieeeBits : ieeeSign f (ieeeBits f negative exponent fraction) = if negative then -1 else 1 := by
  have := magnitude_lt hf he ht
  cases negative with
  | false => simp [ieeeSign, ieeeBits, Nat.div_eq_of_lt this]
  | true => simp [ieeeSign, ieeeBits, Nat.add_div_left _ (Nat.two_pow_pos _), Nat.div_eq_of_lt this]

end

/-! ### The value of the rounded bits -/

/-- The binade of `q` is one of normal numbers, and so is the next one, into which rounding may carry. -/
def NormalBinade (f : IeeeFormat) (q : Rat) : Prop :=
  1 ≤ Int.log 2 |q| + f.bias ∧ Int.log 2 |q| + f.bias + 2 < (2 ^ (f.width - f.precision) : Nat)

/-- The factor of a value's sign. -/
def signFactor (q : Rat) : Rat := if q < 0 then -1 else 1

theorem signFactor_mul_abs (q : Rat) : signFactor q * |q| = q := by
  unfold signFactor
  split_ifs with h
  · rw [abs_of_neg h, neg_one_mul, neg_neg]
  · rw [abs_of_nonneg (not_lt.mp h), one_mul]

theorem signFactor_eq (q : Rat) : signFactor q = 1 ∨ signFactor q = -1 := by
  unfold signFactor
  split_ifs
  · exact .inr rfl
  · exact .inl rfl

theorem signFactor_ne_zero (q : Rat) : signFactor q ≠ 0 := by
  obtain h | h := signFactor_eq q <;> simp [h]

theorem signFactor_mul_self (q : Rat) : signFactor q * signFactor q = 1 := by
  obtain h | h := signFactor_eq q <;> simp [h]

theorem abs_signFactor (q : Rat) : |signFactor q| = 1 := by
  obtain h | h := signFactor_eq q <;> simp [h]

theorem ieeeSign_eq (f : IeeeFormat) (bits : Nat) : ieeeSign f bits = 1 ∨ ieeeSign f bits = -1 := by
  unfold ieeeSign
  split_ifs
  · exact .inr rfl
  · exact .inl rfl

/-- A distance from `q`, in units in the last place. -/
theorem abs_sub_eq_mul_ulp (f : IeeeFormat) (q v : Rat) :
    |v - q| = |signFactor q * v / ulp f q - exactSignificand f q| * ulp f q := by
  have hulp := ulp_pos f q
  rw [← abs_of_pos hulp, ← abs_mul, abs_of_pos hulp, sub_mul, div_mul_cancel₀ _ hulp.ne', exactSignificand_mul_ulp]
  conv_lhs => rw [← signFactor_mul_abs q]
  obtain h | h := signFactor_eq q
  · rw [h, one_mul, one_mul]
  · rw [h, ← abs_neg]
    congr 1
    ring

/-- A whole number `n` at most half a unit from `x`, and even at half a unit, is nearer to `x` than any other whole number and
than any value of magnitude less than a whole number `m` below `x`. -/
theorem nearest_of_grid {x y : Rat} {n m : Nat} (hn : |(n : Rat) - x| ≤ 1 / 2) (heven : |(n : Rat) - x| = 1 / 2 → n % 2 = 0)
    (hm : (m : Rat) ≤ x) (hy : (∃ k : Int, y = k) ∨ |y| < m) :
    |(n : Rat) - x| ≤ |y - x| ∧ (|(n : Rat) - x| = |y - x| → y ≠ n → n % 2 = 0) := by
  have hother {k : Int} (hk : k ≠ n) : 1 / 2 ≤ |(k : Rat) - x| := by
    have hgap : (1 : Rat) ≤ |(k : Rat) - n| := by
      exact_mod_cast Int.one_le_abs (sub_ne_zero.mpr hk)
    have := abs_sub_le (k : Rat) x n
    rw [abs_sub_comm x] at this
    linarith
  obtain ⟨k, rfl⟩ | hsmall := hy
  · obtain rfl | hk := eq_or_ne k n
    · exact ⟨le_rfl, fun _ hne => absurd rfl hne⟩
    · exact ⟨hn.trans (hother hk), fun heq _ => heven (le_antisymm hn (heq ▸ hother hk))⟩
  · have hgap : x - m < |y - x| := by
      rw [abs_sub_comm]
      exact lt_of_lt_of_le (by linarith [(abs_lt.mp hsmall).2]) (le_abs_self _)
    have hnear : |(n : Rat) - x| ≤ x - m := by
      obtain rfl | hne := eq_or_ne n m
      · rw [abs_sub_comm, abs_of_nonneg (by linarith)]
      · have := hother (k := m) (by exact_mod_cast hne.symm)
        rw [Int.cast_natCast, abs_sub_comm, abs_of_nonneg (by linarith)] at this
        exact hn.trans this
    have hlt := hnear.trans_lt hgap
    exact ⟨hlt.le, fun heq => absurd heq hlt.ne⟩

section
variable {f : IeeeFormat} (hf : f.Interchange) {q : Rat} (hn : NormalBinade f q)
include hf hn

/-- A unit in the last place of a binade of normal numbers, in units of the format's scale. -/
theorem ulp_eq : ulp f q = 2 ^ exponentField f q / 2 ^ (f.bias + f.precision - 1) := by
  obtain ⟨hprec, -⟩ := hf
  obtain ⟨hlow, -⟩ := hn
  have he : (exponentField f q : Int) = Int.log 2 |q| + f.bias := Int.toNat_of_nonneg (by omega)
  have hscale : ((f.bias + f.precision - 1 : Nat) : Int) = f.bias + f.precision - 1 := by omega
  rw [ulp, ← zpow_natCast, ← zpow_natCast, he, hscale, ← zpow_sub₀ two_ne_zero]
  congr 1
  ring

/-- Every value of the format is a whole number of units in the last place of a normal binade, or lies below the binade. -/
theorem ieeeValue_on_grid (bits : Nat) :
    (∃ k : Int, ieeeValue f bits = k * ulp f q) ∨ |ieeeValue f bits| < 2 ^ (f.precision - 1) * ulp f q := by
  have he : 1 ≤ exponentField f q := by
    have := hn.1
    unfold exponentField
    omega
  have hfraction : ieeeFraction f bits < 2 ^ (f.precision - 1) := Nat.mod_lt _ (Nat.two_pow_pos _)
  obtain ⟨sign, hsign, habs⟩ : ∃ sign : Int, ieeeSign f bits = sign ∧ |(sign : Rat)| = 1 := by
    obtain h | h := ieeeSign_eq f bits
    · exact ⟨1, by simp [h]⟩
    · exact ⟨-1, by simp [h]⟩
  have hbelow {m : Nat} (hm : m < 2 ^ (f.precision - 1) * 2 ^ exponentField f q) :
      |(sign * m / 2 ^ (f.bias + f.precision - 1) : Rat)| < 2 ^ (f.precision - 1) * ulp f q := by
    rw [ulp_eq hf hn, abs_div, abs_mul, habs, one_mul, Nat.abs_cast, abs_of_pos (by positivity), ← mul_div_assoc]
    gcongr
    exact_mod_cast hm
  simp only [ieeeValue, hsign]
  split_ifs with h0
  · refine .inr (hbelow ?_)
    calc 2 * ieeeFraction f bits < 2 ^ (f.precision - 1) * 2 ^ 1 := by omega
      _ ≤ 2 ^ (f.precision - 1) * 2 ^ exponentField f q := by gcongr; exact one_le_two
  obtain hle | hlt := le_or_gt (exponentField f q) (ieeeExponentField f bits)
  · obtain ⟨d, hd⟩ := Nat.exists_eq_add_of_le hle
    refine .inl ⟨sign * ((2 ^ (f.precision - 1) + ieeeFraction f bits) * 2 ^ d : Nat), ?_⟩
    rw [ulp_eq hf hn, hd]
    push_cast
    ring
  · refine .inr (hbelow ?_)
    calc (2 ^ (f.precision - 1) + ieeeFraction f bits) * 2 ^ ieeeExponentField f bits
        < 2 ^ (f.precision - 1) * 2 * 2 ^ ieeeExponentField f bits := by gcongr; omega
      _ = 2 ^ (f.precision - 1) * 2 ^ (ieeeExponentField f bits + 1) := by ring
      _ ≤ 2 ^ (f.precision - 1) * 2 ^ exponentField f q := by gcongr; exacts [one_le_two, hlt]

/-- The same in units in the last place, with the sign of `q`. -/
theorem signFactor_mul_ieeeValue_on_grid (bits : Nat) :
    (∃ k : Int, signFactor q * ieeeValue f bits / ulp f q = k)
      ∨ |signFactor q * ieeeValue f bits / ulp f q| < (2 ^ (f.precision - 1) : Nat) := by
  have hulp := ulp_pos f q
  obtain ⟨k, hk⟩ | hsmall := ieeeValue_on_grid hf hn bits
  · rw [hk, ← mul_assoc, mul_div_cancel_right₀ _ hulp.ne']
    obtain h | h := signFactor_eq q
    · exact .inl ⟨k, by rw [h, one_mul]⟩
    · exact .inl ⟨-k, by rw [h, neg_one_mul, Int.cast_neg]⟩
  · rw [abs_div, abs_mul, abs_signFactor, one_mul, abs_of_pos hulp, div_lt_iff₀ hulp]
    exact .inr (by exact_mod_cast hsmall)

variable (hq : q ≠ 0)
include hq

/-- The fields of the rounded bits. Where the significand rounds up to the next power of two, the exponent field is one more
and the fraction is 0. -/
theorem exists_fields_roundNearestEven : ∃ e t : Nat,
    roundNearestEven f q = ieeeBits f (decide (q < 0)) e t
      ∧ 1 ≤ e ∧ e + 1 < 2 ^ (f.width - f.precision) ∧ t < 2 ^ (f.precision - 1)
      ∧ (2 ^ (f.precision - 1) + t) * 2 ^ e = significand f q * 2 ^ exponentField f q
      ∧ t % 2 = significand f q % 2 := by
  obtain ⟨hlow, hhigh⟩ := significand_mem hf hq
  obtain ⟨hnLow, hnHigh⟩ := hn
  have he : (exponentField f q : Int) = Int.log 2 |q| + f.bias := Int.toNat_of_nonneg (by omega)
  have hdouble := hf.hidden_bit
  have heven : 2 ^ (f.precision - 1) % 2 = 0 :=
    Nat.mod_eq_zero_of_dvd (dvd_pow_self 2 (by have := hf.two_le_precision; omega))
  have hbits : roundNearestEven f q
      = ieeeBits f (decide (q < 0)) (exponentField f q) (significand f q - 2 ^ (f.precision - 1)) := by
    simp [roundNearestEven_eq f hq, ieeeBits]
  obtain hlt | heq := hhigh.lt_or_eq
  · exact ⟨_, _, hbits, by omega, by omega, by omega, by rw [Nat.add_sub_cancel' hlow], by omega⟩
  · refine ⟨exponentField f q + 1, 0, ?_, by omega, by omega, Nat.two_pow_pos _, ?_, by omega⟩
    · rw [hbits, heq, hdouble, two_mul, Nat.add_sub_cancel, ieeeBits, ieeeBits, add_mul, one_mul, add_zero]
    · rw [heq, hdouble]
      ring

theorem roundNearestEven_lt : roundNearestEven f q < 2 ^ f.width := by
  obtain ⟨e, t, hbits, -, he, ht, -, -⟩ := exists_fields_roundNearestEven hf hn hq
  exact hbits ▸ ieeeBits_lt hf _ (by omega) ht

theorem ieeeFinite_roundNearestEven : ieeeFinite f (roundNearestEven f q) = true := by
  obtain ⟨e, t, hbits, -, he, ht, -, -⟩ := exists_fields_roundNearestEven hf hn hq
  rw [hbits, ieeeFinite, ieeeExponentField_ieeeBits hf _ (by omega) ht, bne_iff_ne]
  omega

theorem ieeeFraction_roundNearestEven_mod_two :
    ieeeFraction f (roundNearestEven f q) % 2 = significand f q % 2 := by
  obtain ⟨e, t, hbits, -, -, ht, -, hparity⟩ := exists_fields_roundNearestEven hf hn hq
  rw [hbits, ieeeFraction_ieeeBits hf _ ht, hparity]

/-- The rounded bits are of the rounded significand. -/
theorem ieeeValue_roundNearestEven :
    ieeeValue f (roundNearestEven f q) = signFactor q * (significand f q * ulp f q) := by
  obtain ⟨e, t, hbits, hpos, he, ht, hvalue, -⟩ := exists_fields_roundNearestEven hf hn hq
  rw [hbits, ieeeValue, ieeeExponentField_ieeeBits hf _ (by omega) ht, if_neg (by omega),
    ieeeSign_ieeeBits hf _ (by omega) ht, ieeeFraction_ieeeBits hf _ ht, hvalue, ulp_eq hf hn, signFactor]
  push_cast
  simp only [decide_eq_true_eq]
  ring

theorem signFactor_mul_roundNearestEven_div_ulp :
    signFactor q * ieeeValue f (roundNearestEven f q) / ulp f q = significand f q := by
  rw [ieeeValue_roundNearestEven hf hn hq, ← mul_assoc, signFactor_mul_self, one_mul,
    mul_div_cancel_right₀ _ (ulp_pos f q).ne']

/-- Rounding is off by at most half a unit in the last place. -/
theorem roundNearestEven_error : |ieeeValue f (roundNearestEven f q) - q| ≤ ulp f q / 2 := by
  rw [abs_sub_eq_mul_ulp f q, signFactor_mul_roundNearestEven_div_ulp hf hn hq, div_eq_inv_mul, inv_eq_one_div]
  exact mul_le_mul_of_nonneg_right (significand_error f q).1 (ulp_pos f q).le

/-- A value with a whole number as its exact significand is not changed by rounding. -/
theorem ieeeValue_roundNearestEven_of_exact {k : Nat} (hk : exactSignificand f q = k) :
    ieeeValue f (roundNearestEven f q) = q := by
  have hsig : significand f q = k := significand_eq (by rw [hk, sub_self, abs_zero]; exact one_half_pos)
  rw [ieeeValue_roundNearestEven hf hn hq, hsig, ← hk, exactSignificand_mul_ulp, signFactor_mul_abs]

/-- No value of the format is nearer to `q` than the rounded one, and the rounded one has an even fraction where another is as
near. -/
theorem roundNearestEven_nearest (bits : Nat) :
    |ieeeValue f (roundNearestEven f q) - q| ≤ |ieeeValue f bits - q|
      ∧ (|ieeeValue f (roundNearestEven f q) - q| = |ieeeValue f bits - q| →
          ieeeValue f bits ≠ ieeeValue f (roundNearestEven f q) → ieeeFraction f (roundNearestEven f q) % 2 = 0) := by
  have hulp := ulp_pos f q
  have hround := signFactor_mul_roundNearestEven_div_ulp hf hn hq
  obtain ⟨herr, heven⟩ := significand_error f q
  obtain ⟨hle, htie⟩ := nearest_of_grid herr heven (by exact_mod_cast (exactSignificand_mem hf hq).1)
    (signFactor_mul_ieeeValue_on_grid hf hn bits)
  rw [abs_sub_eq_mul_ulp f q, abs_sub_eq_mul_ulp f q, hround, ieeeFraction_roundNearestEven_mod_two hf hn hq]
  refine ⟨mul_le_mul_of_nonneg_right hle hulp.le, fun heq hne => htie (mul_right_cancel₀ hulp.ne' heq) fun hsame => hne ?_⟩
  rw [← hround, div_left_inj' hulp.ne'] at hsame
  exact mul_left_cancel₀ (signFactor_ne_zero q) hsame

end

/-! ### Rounding a value near another one -/

theorem sign_eq_of_near {q q' : Rat} (h : |q' - q| < |q|) : q' ≠ 0 ∧ (q' < 0 ↔ q < 0) := by
  obtain ⟨hlow, hhigh⟩ := abs_lt.mp h
  obtain hneg | hpos := lt_or_ge q 0
  · rw [abs_of_neg hneg] at hhigh
    have hq' : q' < 0 := by linarith
    exact ⟨hq'.ne, iff_of_true hq' hneg⟩
  · rw [abs_of_nonneg hpos] at hlow
    have hq' : 0 < q' := by linarith
    exact ⟨hq'.ne', iff_of_false hq'.not_gt hpos.not_gt⟩

section
variable {x : Rat} {m : Nat} (hm : 3 * x = m)
include hm

/-- A whole number of thirds at most a half from a whole number is at most a third from it. -/
theorem abs_sub_le_third {n : Nat} (h : |(n : Rat) - x| ≤ 1 / 2) : |(n : Rat) - x| ≤ 1 / 3 := by
  have hthirds : 3 * |(n : Rat) - x| = |(3 * n - m : Int)| := by
    push_cast
    rw [← hm, ← mul_sub, abs_mul, Nat.abs_ofNat]
  have hlt : |(3 * n - m : Int)| < 2 := by
    exact_mod_cast (by linarith : ((|(3 * n - m : Int)| : Int) : Rat) < 2)
  have hle : ((|(3 * n - m : Int)| : Int) : Rat) ≤ 1 := by exact_mod_cast (by omega : |(3 * n - m : Int)| ≤ 1)
  linarith

variable (hthird : ¬ 3 ∣ m)
include hthird

/-- A number of thirds between two whole numbers that is not whole keeps a third from both. -/
theorem third_inside {low high : Nat} (hlow : (low : Rat) ≤ x) (hhigh : x < high) :
    low + 1 / 3 ≤ x ∧ x ≤ high - 1 / 3 := by
  have hmLow : 3 * low ≤ m := by exact_mod_cast (by linarith : (3 * low : Rat) ≤ m)
  have hmHigh : m < 3 * high := by exact_mod_cast (by linarith : (m : Rat) < 3 * high)
  have hmLow' : (3 * low + 1 : Rat) ≤ m := by exact_mod_cast (by omega : 3 * low + 1 ≤ m)
  have hmHigh' : (m + 1 : Rat) ≤ 3 * high := by exact_mod_cast hmHigh
  exact ⟨by linarith, by linarith⟩

end

/-- A value a third of a unit in the last place away from every whole number of them is rounded like every value within an
eighth of a unit of it. -/
theorem roundNearestEven_eq_of_near {f : IeeeFormat} (hf : f.Interchange) {q q' : Rat} (hq : q ≠ 0) {m : Nat}
    (hm : 3 * exactSignificand f q = m) (hthird : ¬ 3 ∣ m) (hnear : |q' - q| ≤ ulp f q / 8) :
    roundNearestEven f q' = roundNearestEven f q := by
  have hulp := ulp_pos f q
  obtain ⟨hlow, hhigh⟩ := exactSignificand_mem hf hq
  obtain ⟨hlow', hhigh'⟩ := third_inside (low := 2 ^ (f.precision - 1)) (high := 2 ^ f.precision) hm hthird
    (by exact_mod_cast hlow) (by exact_mod_cast hhigh)
  push_cast at hlow' hhigh'
  have hshift : |(|q'| / ulp f q - exactSignificand f q)| ≤ 1 / 8 := by
    rw [exactSignificand, ← sub_div, abs_div, abs_of_pos hulp, div_le_iff₀ hulp]
    linarith [abs_abs_sub_abs_le q' q]
  obtain ⟨hshiftLow, hshiftHigh⟩ := abs_le.mp hshift
  obtain ⟨hq', hsign⟩ : q' ≠ 0 ∧ (q' < 0 ↔ q < 0) := by
    refine sign_eq_of_near (hnear.trans_lt ?_)
    have hone : (1 : Rat) ≤ 2 ^ (f.precision - 1) := one_le_pow₀ one_le_two
    rw [← exactSignificand_mul_ulp f q, div_eq_inv_mul]
    exact mul_lt_mul_of_pos_right (by linarith) hulp
  have hlog : Int.log 2 |q'| = Int.log 2 |q| :=
    (log_eq_iff_div_ulp hf q hq').mpr ⟨by linarith, by linarith⟩
  have hsignificand : significand f q' = significand f q := by
    obtain ⟨herrLow, herrHigh⟩ := abs_le.mp (abs_sub_le_third hm (significand_error f q).1)
    refine significand_eq ?_
    rw [exactSignificand, ulp, hlog, ← ulp, abs_lt]
    exact ⟨by linarith, by linarith⟩
  simp only [roundNearestEven_eq f hq, roundNearestEven_eq f hq', exponentField, hlog, hsignificand, hsign]

end Sys2Proof.Machine
end

section
/-! The two binary renderings of the pitch voltage (44_signals.md R78). -/

namespace Sys2Proof.Machine

/-! ### Values in the range of the pitch voltage -/

theorem interchange_of_pitchFormat {f : IeeeFormat} (hfmt : f = binary64 ∨ f = binary32) : f.Interchange := by
  obtain rfl | rfl := hfmt <;> exact ⟨by decide, by decide⟩

/-- The magnitudes that the pitch voltage and the steps of its formula have where they are not 0. -/
def InPitchRange (q : Rat) : Prop := 1 / 384 ≤ |q| ∧ |q| < 256

theorem InPitchRange.ne_zero {q : Rat} (h : InPitchRange q) : q ≠ 0 := by
  rintro rfl
  have := h.1
  norm_num at this

theorem InPitchRange.log {q : Rat} (h : InPitchRange q) : -9 ≤ Int.log 2 |q| ∧ Int.log 2 |q| < 8 := by
  obtain ⟨hlow, hhigh⟩ := h
  have hpos : 0 < |q| := by linarith
  rw [← Int.zpow_le_iff_le_log one_lt_two hpos, ← Int.lt_zpow_iff_log_lt one_lt_two hpos]
  norm_num
  exact ⟨by linarith, hhigh⟩

theorem InPitchRange.normalBinade {q : Rat} (h : InPitchRange q) {f : IeeeFormat} (hfmt : f = binary64 ∨ f = binary32) :
    NormalBinade f q := by
  obtain ⟨hlow, hhigh⟩ := h.log
  obtain rfl | rfl := hfmt
  · simp only [NormalBinade, binary64]
    omega
  · simp only [NormalBinade, binary32]
    omega

/-- A fraction in the range of the pitch voltage, by its numerator. -/
theorem inPitchRange_of_fraction {n : Int} {d : Nat} (hn : n ≠ 0) (hd : 0 < d) (hd' : d ≤ 384) (hlt : n.natAbs < 256 * d) :
    InPitchRange (n / d) := by
  have hpos : (0 : Rat) < d := by exact_mod_cast hd
  have habs : |(n : Rat)| = n.natAbs := by rw [Nat.cast_natAbs, Int.cast_abs]
  have hone : (1 : Rat) ≤ n.natAbs := by exact_mod_cast Int.natAbs_pos.mpr hn
  have hle : (d : Rat) ≤ 384 := by exact_mod_cast hd'
  rw [InPitchRange, abs_div, Nat.abs_cast, habs, le_div_iff₀ hpos, div_lt_iff₀ hpos]
  exact ⟨by linarith, by exact_mod_cast hlt⟩

theorem pitchNum_natAbs_le (s : State) : (pitchNum s).toInt.natAbs ≤ 2112 := by
  obtain ⟨-, hlow, hhigh, -⟩ := pitchNumIsExact s
  omega

theorem pitchExact_eq_zero_iff (s : State) : pitchExact s = 0 ↔ (pitchNum s).toInt = 0 := by
  simp [pitchExact]

theorem pitchExact_inPitchRange {s : State} (h : pitchExact s ≠ 0) : InPitchRange (pitchExact s) := by
  have := pitchNum_natAbs_le s
  exact inPitchRange_of_fraction (d := 384) ((pitchExact_eq_zero_iff s).not.mp h) (by decide) le_rfl (by omega)

/-! ### PITCH_V -/

theorem roundNearestEven_pitchExact_lt (s : State) {f : IeeeFormat} (hfmt : f = binary64 ∨ f = binary32) :
    roundNearestEven f (pitchExact s) < 2 ^ f.width := by
  by_cases h0 : pitchExact s = 0
  · rw [h0, roundNearestEven_zero]
    exact Nat.two_pow_pos _
  · exact roundNearestEven_lt (interchange_of_pitchFormat hfmt) ((pitchExact_inPitchRange h0).normalBinade hfmt) h0

/-- Settles O53: where the pitch is not 0 it lies in a binade of normal numbers of both formats. -/
theorem pitchVoltageIsNearestEven : Obligations.PitchVoltageIsNearestEven := by
  refine ⟨fun s => ⟨rfl, ⟨_, rfl, Nat.mod_eq_of_lt (roundNearestEven_pitchExact_lt s (.inl rfl))⟩,
    _, rfl, Nat.mod_eq_of_lt (roundNearestEven_pitchExact_lt s (.inr rfl))⟩, fun s f hfmt => ?_⟩
  refine ⟨roundNearestEven_pitchExact_lt s hfmt, ?_⟩
  by_cases h0 : pitchExact s = 0
  · have hfinite : ieeeFinite f 0 = true := by
      obtain rfl | rfl := hfmt <;> decide
    simp [h0, hfinite, ieeeFraction]
  · have hf := interchange_of_pitchFormat hfmt
    have hn := (pitchExact_inPitchRange h0).normalBinade hfmt
    exact ⟨ieeeFinite_roundNearestEven hf hn h0, fun h => absurd h h0,
      fun bits _ _ => roundNearestEven_nearest hf hn h0 bits⟩

/-! ### The formula in binary64 -/

/-- A whole number of 128ths of the formula's size is a binary64 value. -/
theorem ieeeValue_roundNearestEven_binary64 {n : Int} (hn : n.natAbs < 2 ^ 15) :
    ieeeValue binary64 (roundNearestEven binary64 (n / 128)) = n / 128 := by
  obtain rfl | h0 := eq_or_ne n 0
  · simp
  have hrange : InPitchRange ((n : Rat) / 128) :=
    inPitchRange_of_fraction (d := 128) h0 (by decide) (by decide) (by omega)
  have hdyadic : 1 * |(n : Rat) / 128| = (n.natAbs : Rat) / 2 ^ 7 := by
    rw [one_mul, abs_div, Nat.cast_natAbs, Int.cast_abs]
    norm_num
  obtain ⟨k, hk⟩ := exists_dyadic_exactSignificand (f := binary64) hdyadic (by
    have := hrange.log.2
    simp only [binary64]
    omega)
  rw [one_mul] at hk
  exact ieeeValue_roundNearestEven_of_exact (interchange_of_pitchFormat (.inl rfl)) (hrange.normalBinade (.inl rfl))
    hrange.ne_zero hk

/-- Settles O54: every operation before the division has a binary64 value as its exact result, so only the division rounds. -/
theorem binary64EvaluationRoundsOnce : Obligations.Binary64EvaluationRoundsOnce := by
  intro s
  have hcur : s.cur.toNat < 128 := s.cur.isLt
  have hpw : s.pw.toNat < 128 := s.pw.isLt
  have hexact {q : Rat} (n : Int) (hq : q = n / 128) (hn : n.natAbs < 2 ^ 15) :
      ieeeValue binary64 (roundNearestEven binary64 q) = q := hq ▸ ieeeValue_roundNearestEven_binary64 hn
  have hsemitones := hexact (q := (s.cur.toNat : Rat) - 64) (128 * (s.cur.toNat - 64)) (by push_cast; ring) (by omega)
  have hwheel := hexact (q := (s.pw.toNat : Rat) - 64) (128 * (s.pw.toNat - 64)) (by push_cast; ring) (by omega)
  have htwice := hexact (q := 2 * ((s.pw.toNat : Rat) - 64)) (256 * (s.pw.toNat - 64)) (by push_cast; ring) (by omega)
  have hbend := hexact (q := 2 * ((s.pw.toNat : Rat) - 64) / 64) (4 * (s.pw.toNat - 64)) (by push_cast; ring) (by omega)
  have hsum := hexact (q := ((s.cur.toNat : Rat) - 64) + 2 * ((s.pw.toNat : Rat) - 64) / 64)
    (128 * (s.cur.toNat - 64) + 4 * (s.pw.toNat - 64)) (by push_cast; ring) (by omega)
  simp only [pitchFormulaRounded, hsemitones, hwheel, htwice, hbend, hsum, pitchExact_eq_pitchFormula, pitchFormula]

/-! ### Rounding twice -/

theorem ulp_binary32 (q : Rat) : ulp binary32 q = 2 ^ 29 * ulp binary64 q := by
  rw [ulp, ulp, ← zpow_natCast, ← zpow_add₀ two_ne_zero]
  congr 1
  simp only [binary64, binary32]
  ring

/-- Settles O55: a pitch whose numerator 3 divides is a binary64 value, and any other one is a third of a binary32 unit away
from the whole numbers of them, further than the binary64 rounding reaches. -/
theorem binary32RoundingsAgree : Obligations.Binary32RoundingsAgree := by
  intro s
  have hnum := pitchNum_natAbs_le s
  by_cases h3 : 3 ∣ (pitchNum s).toInt
  · obtain ⟨n, hn⟩ := h3
    have hq : pitchExact s = n / 128 := by
      rw [pitchExact, hn]
      push_cast
      ring
    rw [hq, ieeeValue_roundNearestEven_binary64 (by omega)]
  have h0 : pitchExact s ≠ 0 := fun h => h3 ((pitchExact_eq_zero_iff s).mp h ▸ dvd_zero 3)
  have hrange := pitchExact_inPitchRange h0
  have hdyadic : 3 * |pitchExact s| = ((pitchNum s).toInt.natAbs : Rat) / 2 ^ 7 := by
    rw [pitchExact, abs_div, Nat.cast_natAbs, Int.cast_abs]
    norm_num
    ring
  obtain ⟨k, hk⟩ := exists_dyadic_exactSignificand (f := binary32) hdyadic (by
    have := hrange.log.2
    simp only [binary32]
    omega)
  refine roundNearestEven_eq_of_near (interchange_of_pitchFormat (.inr rfl)) h0 hk (fun hdvd => h3 ?_) ?_
  · exact Int.natCast_dvd.mpr (Nat.Coprime.dvd_of_dvd_mul_right (Nat.Coprime.pow_right k (by decide)) hdvd)
  · have herr := roundNearestEven_error (interchange_of_pitchFormat (.inl rfl)) (hrange.normalBinade (.inl rfl)) h0
    have := ulp_pos binary64 (pitchExact s)
    rw [ulp_binary32]
    linarith

end Sys2Proof.Machine
end

section
/-! The exception InvalidArgument (60_exceptions.md): the one step that raises it, and what every other step leaves of FAULT
and FAULT_WORD. -/

namespace Sys2Proof.Machine

/-- The INVALID_DATA row of the class table has exactly the accepted words with bad data (R45, R63). -/
theorem classOfWord_eq_invalidData_iff {c : Nibble} {w : Msg} :
    classOfWord c w = .invalidData ↔ channelOf w = c.toNat ∧ BadData w := by
  refine ⟨fun h => ?_, fun ⟨hch, hbad⟩ => classOfWord_invalidData hch hbad⟩
  unfold classOfWord at h
  split_ifs at h with hch hbad
  exact ⟨not_not.mp hch, hbad⟩

/-- The range check of PROCESS_MESSAGE (R61, R63). -/
theorem processMessage_of_badData {w : Msg} {s : State} (hch : channelOf w = s.listenCh.toNat) (hbad : BadData w) :
    processMessage w s = raiseInvalidArgument w s := by
  rw [processMessage, if_neg (not_not.mpr hch), if_pos hbad]

/-- A step on an accepted word with bad data takes the exception, and nothing else (R82). -/
theorem step_of_badData {s : State} {w : Msg} {rest : List HostEvent} (hp : s.pending = messageEvent w :: rest)
    (hch : channelOf w = s.listenCh.toNat) (hbad : BadData w) :
    step s = .next (raiseInvalidArgument w { s with pending := rest }) := by
  rw [step_messageEvent hp, processMessage_of_badData (s := { s with pending := rest }) hch hbad]

/-- Everything a step can do to FAULT and FAULT_WORD: reset clears them, an accepted word with bad data raises
InvalidArgument, and any other step keeps both (R81, R84). -/
theorem step_fault_cases {s t : State} (h : step s = .next t) :
    (∃ rest, s.pending = resetEvent :: rest ∧ t = applyReset { s with pending := rest })
      ∨ (∃ w rest, s.pending = messageEvent w :: rest ∧ channelOf w = s.listenCh.toNat ∧ BadData w
          ∧ t = raiseInvalidArgument w { s with pending := rest })
      ∨ (t.fault = s.fault ∧ t.faultWord = s.faultWord) := by
  obtain ⟨-, rfl⟩ | ⟨e, rest, hp, ⟨w, rfl, hx⟩ | ⟨rfl, rfl⟩ | ⟨-, rfl⟩ | ⟨-, rfl⟩⟩ := step_cases h
  · exact .inr (.inr ⟨rfl, rfl⟩)
  · by_cases hclass : classOfWord s.listenCh w = .invalidData
    · obtain ⟨hch, hbad⟩ := classOfWord_eq_invalidData_iff.mp hclass
      have ht := h.symm.trans (step_of_badData hp hch hbad)
      exact .inr (.inl ⟨w, rest, hp, hch, hbad, Host.Outcome.next.inj ht⟩)
    · have hkept := exec_keeps_fault hx (by rwa [classOf_decode])
      exact .inr (.inr hkept)
  · exact .inl ⟨rest, hp, rfl⟩
  · exact .inr (.inr ⟨rfl, rfl⟩)
  · exact .inr (.inr ⟨rfl, rfl⟩)

/-- Settles O31: a further exception finds FAULT set, and so records no word. -/
theorem faultIsStickyUntilReset : Obligations.FaultIsStickyUntilReset := by
  intro s t hs h hr
  obtain ⟨rest, hp, -⟩ | ⟨w, rest, -, -, -, rfl⟩ | ⟨hflag, hword⟩ := step_fault_cases h
  · exact absurd hp (hr rest)
  · simp [raiseInvalidArgument_eq, hs]
  · exact ⟨hflag.trans hs, hword⟩

/-- Settles O32: of the three things a step can do to FAULT, the exception alone sets it, and it records its word in a
fault-free block. -/
theorem faultIsRaisedByBadDataAlone : Obligations.FaultIsRaisedByBadDataAlone := by
  intro s t hs h
  constructor
  · intro ht
    obtain ⟨rest, -, rfl⟩ | ⟨w, rest, hp, hch, hbad, rfl⟩ | ⟨hflag, -⟩ := step_fault_cases h
    · cases ht
    · exact ⟨w, rest, hp, hch, hbad, by simp [raiseInvalidArgument_eq, hs]⟩
    · exact absurd (hflag.symm.trans ht) (by simp [hs])
  · rintro ⟨w, rest, hp, hch, hbad, -⟩
    obtain rfl := Host.Outcome.next.inj (h.symm.trans (step_of_badData hp hch hbad))
    rfl

/-- Settles O34: the exception, as one update, writes FAULT and FAULT_WORD alone. -/
theorem faultIsPrecise : Obligations.FaultIsPrecise := by
  intro s w rest hp hch hbad
  refine ⟨_, step_of_badData hp hch hbad, ?_, rfl⟩
  rw [raiseInvalidArgument_eq]
  exact ⟨rfl, rfl, rfl, rfl, rfl, rfl, rfl⟩

end Sys2Proof.Machine
end

section
/-! Steps with nothing waiting, and runs over any transactions and readings (R83, R95). -/

namespace Sys2Proof.Machine

/-- Settles O4: with nothing waiting there is no event to take. -/
theorem idleBlockHoldsState : Obligations.IdleBlockHoldsState := fun _ => step_idle

/-- A step on a transaction or a reading answers, and takes that event alone (R83). -/
theorem step_of_legal_event {s : State} {e : HostEvent} {rest : List HostEvent} (hp : s.pending = e :: rest)
    (he : (∃ x, e = .transaction x) ∨ e = .readSignals) : ∃ t, step s = .next t ∧ t.pending = rest := by
  obtain ⟨w | _, rfl⟩ | rfl := he
  · exact ⟨_, step_messageEvent hp, processMessage_pending w _⟩
  · exact ⟨_, step_cons hp, rfl⟩
  · exact ⟨_, step_cons hp, rfl⟩

/-- Settles O7: by induction on the waiting events, each of which takes one step that answers. -/
theorem everyLegalRunCompletes : Obligations.EveryLegalRunCompletes := by
  intro s hlegal
  induction hp : s.pending generalizing s with
  | nil => exact ⟨s, drain_idle hp, hp⟩
  | cons e rest ih =>
    rw [hp] at hlegal
    obtain ⟨he, hrest⟩ := List.forall_mem_cons.mp hlegal
    obtain ⟨u, hstep, hu⟩ := step_of_legal_event hp he
    obtain ⟨t, hdrain, ht⟩ := ih u (hu ▸ hrest) hu
    exact ⟨t, (drain_cons hp hstep hu).trans hdrain, ht⟩

end Sys2Proof.Machine
end

section
/-! Reset: the construction values, and the zero outputs after it (R96). -/

namespace Sys2Proof.Machine

/-- A step on a waiting reset takes it, and resets the block (R96). -/
theorem step_resetEvent {s : State} {rest : List HostEvent} (hp : s.pending = resetEvent :: rest) :
    step s = .next (applyReset { s with pending := rest }) := step_cons hp

/-- Reset puts CUR on the reference note and PW at the centre of the wheel, where R77 counts from. -/
theorem pitchNum_applyReset (s : State) : pitchNum (applyReset s) = 0 :=
  BitVec.eq_of_toInt_eq (by simp [pitchNum_toInt, applyReset_eq])

theorem pitchExact_applyReset (s : State) : pitchExact (applyReset s) = 0 := by
  simp [pitchExact, pitchNum_applyReset]

/-- The outputs after reset, in any format (R96). -/
theorem computeSignals_applyReset (fmt : Config.PitchFormat) (s : State) :
    computeSignals fmt (applyReset s) = ⟨false, 0, 0, renderPitch 0 fmt, false, 0⟩ := by
  have hgate : gateV (applyReset s) = 0 := rfl
  rw [computeSignals, hgate, pitchNum_applyReset, pitchV, pitchExact_applyReset, applyReset_eq]

/-- Settles O3: a waiting reset takes one step, and zero is rendered as +0.0 in each format (R78). -/
theorem resetTransactionRestoresConstruction : Obligations.ResetTransactionRestoresConstruction := by
  intro s rest
  refine ⟨fun hp => ?_, rfl, ?_, ?_, ?_⟩
  · rw [step_resetEvent hp, applyReset_eq]
  · exact computeSignals_applyReset .exact s
  · simp [computeSignals_applyReset, renderPitch]
  · simp [computeSignals_applyReset, renderPitch]

end Sys2Proof.Machine
end
